-- ==== Sys2Proof/Word.lean ====
section
/-! DEFINITION. Word types: the bit-vector widths the manual sends on its links and holds in the site image. -/

namespace Sys2Proof

/-- A character of a link, a byte of a frame (R163, R164). -/
abbrev Byte := BitVec 8

/-- A 16-bit half of an image word, a two-byte field (R175, R189). -/
abbrev Half := BitVec 16

/-- A 32-bit image word, a four-byte field (R175, R189). -/
abbrev Word := BitVec 32

/-- A site time as it travels on a link, six bytes (R55, R175). -/
abbrev SiteTimeWord := BitVec 48

end Sys2Proof
end

