-- ==== Sys2Proof/Config.lean ====
section
/-! DEFINITION. Config: the values the manual leaves open and the part still gives. Each is a constant with no body, so
nothing can be proved of its value. -/

namespace Sys2Proof.Config

/-- DESIGN CHOICE (log 12): the time t′ that READ_PREDICT answers for a lead in ms while no demand instant has been taken.
R88 forms t′ from the last demand instant, which R89 says is absent then. -/
opaque predictTimeBeforeInstant : Nat → Nat

/-- DESIGN CHOICE (log 13): the demand instant stamped in a capture record opened while no demand instant has been taken.
R152 stamps the last demand instant, which R89 says is absent then. -/
opaque stampBeforeInstant : Nat

end Sys2Proof.Config
end

