-- ==== Sys2Proof/Syntax.lean ====
section
/-! DEFINITION. Syntax: the commands of the part, one constructor of `Instr` for each row of spec/opcode_table.json,
with the operands the rules give them. Request operands are the fields as they travel on the link (R175, R176). -/

namespace Sys2Proof

/-- The three axes, in the manual's order (00_scope, Axes). -/
inductive Axis where
  | az | el | rot
deriving DecidableEq, Repr

/-- The four client links (R163). -/
inductive Port where
  | p0 | p1 | p2 | p3
deriving DecidableEq, Repr

/-- The lines that are cut-off sources (R142). -/
inductive CutLine where
  | interlock | azLimit | elLimit | rotLimit | estop
deriving DecidableEq, Repr

/-- A frame of a client link or a drive line, without SYNC, LEN and check (R164): LEN is half the payload's length. -/
structure Frame where
  kind : Byte
  tag : Byte
  payload : List Byte
deriving DecidableEq, Repr

/-- A track node as ADD_TARGET and APPEND_NODES carry it (R176). -/
structure WireNode where
  time : SiteTimeWord
  az : Word
  el : Word
  rot : Word
  azRate : Word
  elRate : Word
  rotRate : Word
deriving DecidableEq, Repr

/-- A target header as ADD_TARGET carries it (R176). -/
structure WireHeader where
  id : Half
  start : SiteTimeWord
  expire : SiteTimeWord
  dwell : Word
  wrap : Byte
  options : Byte
deriving DecidableEq, Repr

/-- The request kinds of R174's table. -/
inductive RequestKind where
  | addTarget | appendNodes | deleteTarget | readList | readOutcomes
  | run | hold | stop | abort | release | readSequence
  | setTime | readTime | readPointing | readPredict | forceGust | clearForce
  | guideSample | guideReset | pushOffset | popOffset | clearOffsets | readCorrections
  | enableAxes | disableAxes | setCutMask | readAxes | readCaptures | readStatus
  | readNotices | setRouting | setThreshold | siteWords | restart
deriving DecidableEq, Repr

/-- The commands: every row of spec/opcode_table.json. A request carries the port it comes in on and its TAG. -/
inductive Instr where
  /-- R188. `loadsel` is the level the strap shows. -/
  | powerOn (loadsel : Bool)
  /-- R188: the RESET line rises. -/
  | resetAssert
  /-- R188: the RESET line falls; `loadsel` is the level the strap shows. -/
  | resetFall (loadsel : Bool)
  /-- R191. `bytes` are the bytes the memory acknowledged, from address 0 on. -/
  | configMemoryReadEnd (bytes : List Byte)
  /-- R163. -/
  | portRateChange (port : Port)
  /-- R165: one character received on a client port. -/
  | linkCharacter (port : Port) (char : Byte)
  /-- R165: more than 2,000 µs since the last character of a partial frame. -/
  | linkGapExpiry (port : Port)
  /-- R168: the last character of the reply in transmission has left the port. -/
  | replySent (port : Port)
  /-- R11, R12. -/
  | addTarget (port : Port) (tag : Byte) (header : WireHeader) (nodes : List WireNode)
  /-- R14, R15. -/
  | appendNodes (port : Port) (tag : Byte) (id : Half) (nodes : List WireNode)
  /-- R17. -/
  | deleteTarget (port : Port) (tag : Byte) (id : Half)
  /-- R22. -/
  | readList (port : Port) (tag : Byte) (position : Byte)
  /-- R25. -/
  | readOutcomes (port : Port) (tag : Byte) (after : Word)
  /-- R45. -/
  | run (port : Port) (tag : Byte)
  /-- R46. -/
  | hold (port : Port) (tag : Byte)
  /-- R47. -/
  | stop (port : Port) (tag : Byte)
  /-- R48. -/
  | abort (port : Port) (tag : Byte) (id : Half)
  /-- R49. -/
  | release (port : Port) (tag : Byte) (id : Half)
  /-- R53. -/
  | readSequence (port : Port) (tag : Byte)
  /-- R58. -/
  | setTime (port : Port) (tag : Byte) (time : SiteTimeWord)
  /-- R66. -/
  | readTime (port : Port) (tag : Byte)
  /-- R87. -/
  | readPointing (port : Port) (tag : Byte)
  /-- R88. -/
  | readPredict (port : Port) (tag : Byte) (lead : Half)
  /-- R93. -/
  | forceGust (port : Port) (tag : Byte)
  /-- R93. -/
  | clearForce (port : Port) (tag : Byte)
  /-- R113. -/
  | guideSample (port : Port) (tag : Byte) (dx dy : Half)
  /-- R120. -/
  | guideReset (port : Port) (tag : Byte)
  /-- R122. -/
  | pushOffset (port : Port) (tag : Byte) (dx dy drot : Word)
  /-- R123. -/
  | popOffset (port : Port) (tag : Byte)
  /-- R124. -/
  | clearOffsets (port : Port) (tag : Byte)
  /-- R126. -/
  | readCorrections (port : Port) (tag : Byte)
  /-- R131. -/
  | enableAxes (port : Port) (tag : Byte) (mask : Byte)
  /-- R133. -/
  | disableAxes (port : Port) (tag : Byte) (mask : Byte)
  /-- R146. -/
  | setCutMask (port : Port) (tag : Byte) (axis mask : Byte)
  /-- R148. -/
  | readAxes (port : Port) (tag : Byte)
  /-- R160. -/
  | readCaptures (port : Port) (tag : Byte)
  /-- R173. -/
  | readStatus (port : Port) (tag : Byte)
  /-- R184. -/
  | readNotices (port : Port) (tag : Byte)
  /-- R185. -/
  | setRouting (port : Port) (tag : Byte) (source mask level : Byte)
  /-- R186. -/
  | setThreshold (port : Port) (tag : Byte) (threshold : Byte)
  /-- R192. -/
  | siteWords (port : Port) (tag : Byte) (start : Half) (words : List Word)
  /-- R194. -/
  | restart (port : Port) (tag : Byte)
  /-- R60 to R63: a rising edge of PPS. -/
  | ppsEdge
  /-- R61. -/
  | ppsHoldEnd
  /-- R63. -/
  | pulseWatchExpiry
  /-- R55. -/
  | clockAtLargestValue
  /-- R70. `gust` is the level of the GUST line, judged as the instant is taken (R92). -/
  | demandInstant (gust : Bool)
  /-- R135 to R138: characters received on a drive line. -/
  | driveReply (axis : Axis) (chars : List Byte)
  /-- R141. -/
  | graceTimerExpiry (axis : Axis)
  /-- R143: the line takes `level`. `true` is the row's rise; `false` is a fall, which moves the level alone (R142). -/
  | cutSourceRise (line : CutLine) (level : Bool)
  /-- R132. -/
  | brakeTimerExpiryReleasing (axis : Axis)
  /-- R134. -/
  | brakeTimerExpirySetting (axis : Axis)
  /-- R30. -/
  | startWatchExpiry (id : Half)
  /-- R19. -/
  | recordExpiry (id : Half)
  /-- R38. -/
  | settleHoldExpiry
  /-- R39. -/
  | settleTimeoutExpiry
  /-- R41. -/
  | dwellExpiry
  /-- R50. -/
  | stowRise
  /-- R51. -/
  | stowFall
  /-- R37. -/
  | domeReadyChange (level : Bool)
  /-- R150. -/
  | shutterChange (level : Bool)
  /-- R150. -/
  | shutterCandidateAccepted
deriving DecidableEq, Repr

end Sys2Proof
end

