-- ==== Sys2Proof/Machine/State.lean ====
section
/-! DEFINITION. State: every piece of state the spec gives the part, as plain data, and its value after power-on. -/

namespace Sys2Proof.Machine

/-- One value for each axis, in the order AZ, EL, ROT. -/
structure PerAxis (α : Type) where
  az : α
  el : α
  rot : α
deriving DecidableEq, Repr

/-- One value for each client port. -/
structure PerPort (α : Type) where
  p0 : α
  p1 : α
  p2 : α
  p3 : α
deriving DecidableEq, Repr

/-- The spec names no condition that stops the part: bad frames are discarded, bad requests are answered by a code, drive
failures cut axes. So there is no fault (INVENTORY, Faults). -/
inductive Fault where
deriving DecidableEq, Repr

/-- Why a command has no meaning. -/
inductive Refusal where
  /-- Raised by `exec` alone, for a command not modelled yet. Safe: the model stops where the part goes on. -/
  | notModelled (mnemonic : String)
deriving DecidableEq, Repr

/-! ## Night list (01) -/

/-- R1. -/
inductive WrapPreference where
  | nearest | low | high
deriving DecidableEq, Repr

/-- R1. -/
structure Options where
  guide : Bool
  domeWait : Bool
  preempt : Bool
deriving DecidableEq, Repr

/-- R2. -/
inductive RecordStatus where
  | waiting | active
deriving DecidableEq, Repr

/-- R3: positions in cas, rates in rate units, time in µs of site time. -/
structure TrackNode where
  time : Nat
  pos : PerAxis Int
  rate : PerAxis Int
deriving DecidableEq, Repr

/-- R1, R2. The node count is the length of `nodes`; position 0 is the oldest (R4). -/
structure TargetRecord where
  id : Nat
  start : Nat
  expire : Nat
  dwell : Nat
  wrap : WrapPreference
  options : Options
  status : RecordStatus
  serial : Nat
  nodes : List TrackNode
  late : Bool
  actualStart : Option Nat
  firstTrack : Option Nat
  guideCount : Nat
deriving DecidableEq, Repr

/-- R23, in the order the chapter lists them. -/
inductive OutcomeKind where
  | done | released | runOut | limit | preempted | aborted | stowed | cut | settleTimeout | expired | wrapInfeasible
deriving DecidableEq, Repr

/-- R23. Tracked time in ms. -/
structure OutcomeEntry where
  serial : Nat
  id : Nat
  outcome : OutcomeKind
  actualStart : Option Nat
  endTime : Nat
  tracked : Nat
  guideCount : Nat
  late : Bool
deriving DecidableEq, Repr

/-- The list store (R5 to R8, R23, R24). Records in list order, log entries lowest serial first. -/
structure ListStore where
  records : List TargetRecord
  nextSerial : Nat
  changeCount : Nat
  log : List OutcomeEntry
  nextEntry : Nat
deriving DecidableEq, Repr

/-! ## Target controller (02) -/

/-- R27. -/
inductive ListState where
  | stop | run | hold | stow
deriving DecidableEq, Repr

/-- R28. -/
inductive Phase where
  | none | approach | settle | track
deriving DecidableEq, Repr

/-- R30: one for each WAITING record; `expired` once its expiry has been taken or its start time had been reached. -/
structure StartWatch where
  id : Nat
  start : Nat
  expired : Bool
deriving DecidableEq, Repr

/-- R27, R28, R29, R30. Timers are the site time of their expiry, or none when stopped. -/
structure Controller where
  listState : ListState
  phase : Phase
  activeId : Nat
  dwell : Nat
  options : Options
  settleTimeout : Option Nat
  settleHold : Option Nat
  dwellTimer : Option Nat
  firstTrackReached : Bool
  trackedUs : Nat
  trackEntry : Option Nat
  lastError : PerAxis (Option Int)
  watches : List StartWatch
  serial : Nat
deriving DecidableEq, Repr

/-! ## Time base (03) -/

/-- R56. -/
inductive ClockStatus where
  | unset | free | locked
deriving DecidableEq, Repr

/-- R64: when the next demand instant falls. -/
inductive DemandTimer where
  /-- At a site time. -/
  | atSiteTime (t : Nat)
  /-- At an elapsed count, while the clock is held at its largest value. -/
  | atElapsed (e : Nat)
deriving DecidableEq, Repr

/-- R55, R56, R58, R61, R63, R64. -/
structure TimeBase where
  clock : Nat
  status : ClockStatus
  pendingSet : Option Nat
  /-- The elapsed count at which a PPS hold ends (R61). -/
  holdEnd : Option Nat
  pulseWatch : Option Nat
  lastOffset : Option Int
  nextInstant : DemandTimer
  /-- Elapsed microseconds since power-on or the RESET line (R57, R151). -/
  elapsed : Nat
  /-- The model's own: reaching the largest value has been reported (R55; log 37). -/
  largestReported : Bool
deriving DecidableEq, Repr

/-! ## Trajectory unit (04, 05) -/

/-- R92. -/
inductive Profile where
  | calm | gust
deriving DecidableEq, Repr

/-- R69: the track context. -/
structure TrackContext where
  id : Nat
  node : TrackNode
  unwrapped : Int
  lastNodeTime : Nat
deriving DecidableEq, Repr

/-- R68: the reference source in force. -/
inductive Source where
  | track (context : TrackContext)
  | freeze
  | stow
deriving DecidableEq, Repr

/-- The kind of source, as replies give it (R177). -/
inductive SourceKind where
  | track | freeze | stow
deriving DecidableEq, Repr

/-- R75: what the hand-over slot may hold. -/
inductive SlotContent where
  | newTrack (id : Nat) (turns : Int)
  | freeze
  | stow (values : PerAxis Int)
deriving DecidableEq, Repr

/-- R75. -/
structure HandOver where
  content : SlotContent
  serial : Nat
deriving DecidableEq, Repr

/-- R68, R69, R90, for one axis. -/
structure TrajectoryAxis where
  base : Int
  offset : Int
  guide : Int
  demand : Int
  /-- The demand issued at the last demand instant (R152; log 14). -/
  issued : Int
  /-- The demand that the next demand step counts from: the one issued at the last demand instant, or the last actual
  position at which the axis has left OFF since (R80, worked sequence 7.8; log 14). -/
  stepFrom : Int
  e : Int
  w : Int
  demandStep : Int
deriving DecidableEq, Repr

/-- R68, R69, R75, R92, R93, R102. -/
structure Trajectory where
  axes : PerAxis TrajectoryAxis
  source : Source
  adoptedSerial : Nat
  slot : Option HandOver
  lastInstant : Option Nat
  profile : Profile
  forceGust : Bool
  arrivalSet : Bool
deriving DecidableEq, Repr

/-! ## Correction unit (06) -/

/-- R116, R117, R110. -/
structure GuideFlags where
  secantCapped : Bool
  stepClamped : Bool
  saturated : Bool
deriving DecidableEq, Repr

/-- R112, R118. -/
structure GuideResult where
  time : Nat
  az : Int
  el : Int
  flags : GuideFlags
deriving DecidableEq, Repr

/-- R121. -/
structure OffsetEntry where
  dx : Int
  dy : Int
  drot : Int
  axes : PerAxis Int
  capped : Bool
deriving DecidableEq, Repr

/-- R112, R121. The ring is newest first; the stack is top first. -/
structure Correction where
  ring : List (Int × Int)
  gAz : Int
  gEl : Int
  lastGuide : Option GuideResult
  stack : List OffsetEntry
deriving DecidableEq, Repr

/-! ## Drive controller (07) -/

/-- R134. -/
inductive StoppingPart where
  | braking | setting
deriving DecidableEq, Repr

/-- R129. -/
inductive AxisState where
  | off | releasing | on
  | stopping (part : StoppingPart)
  | cut
deriving DecidableEq, Repr

/-- R137. -/
inductive DriveStatus where
  | ok | warn | fault
deriving DecidableEq, Repr

/-- R142: the eight sources of a cut mask in mask order, then ESTOP. -/
inductive CutSource where
  | interlock | azLimit | elLimit | rotLimit | driveLoss | driveFault | following | otherCut | estop
deriving DecidableEq, Repr

/-- R165: a receiver. `last` is the elapsed count of the last character; `got` are the characters after LEN. -/
inductive Receiver where
  | hunting
  | readingLen (last : Nat)
  | assembling (len : Nat) (got : List Byte) (last : Nat)
deriving DecidableEq, Repr

/-- R129, R136: the latest frame sent, while its reply window is open. `isDemand` is false for a position read. -/
structure OpenFrame where
  tag : BitVec 8
  isDemand : Bool
  demand : Int
  time : Nat
deriving DecidableEq, Repr

/-- R138: a tracking error with the site time of its instant. -/
structure TrackingError where
  error : Int
  time : Nat
deriving DecidableEq, Repr

/-- R129, R130, R135, for one axis. -/
structure DriveAxis where
  state : AxisState
  enable : Bool
  brake : Bool
  nextTag : BitVec 8
  openFrame : Option OpenFrame
  /-- The frame last sent on the drive line (R135). -/
  sent : List Byte
  receiver : Receiver
  lastActual : Option Int
  lastStatus : Option DriveStatus
  trackingError : Option TrackingError
  silence : Nat
  grace : Option Nat
  following : Bool
  brakeTimer : Option Nat
  cutMask : BitVec 8
  lastCause : Option CutSource
deriving DecidableEq, Repr

/-! ## Capture unit (08) -/

/-- R150. -/
inductive ShutterLevel where
  | low | high | unknown
deriving DecidableEq, Repr

/-- R150: `since` is the elapsed count at which the level began to hold. -/
structure Candidate where
  level : Bool
  since : Nat
deriving DecidableEq, Repr

/-- R152. The record is OPEN while `closing` is none; its close time and duration come together at the close edge. -/
structure CaptureRecord where
  serial : Nat
  openTime : Nat
  targetId : Nat
  phase : Phase
  instant : Nat
  demands : PerAxis Int
  depth : Nat
  earlierLost : Bool
  targetEnded : Bool
  onTarget : Nat
  guideCount : Nat
  /-- Close time and duration. -/
  closing : Option (Nat × Nat)
deriving DecidableEq, Repr

/-- R155: the reports taken so far for one demand instant. -/
structure Collection where
  time : Nat
  errors : PerAxis (Option Int)
deriving DecidableEq, Repr

/-- R150 to R155. The FIFO is oldest first. -/
structure Capture where
  accepted : ShutterLevel
  candidate : Option Candidate
  /-- The elapsed count noted at the last accepted edge (R151). -/
  edgeCount : Nat
  fifo : List CaptureRecord
  nextSerial : Nat
  collection : Option Collection
deriving DecidableEq, Repr

/-! ## Notice unit (10) -/

/-- R180, numbered 0 to 11 in this order. -/
inductive NoticeSource where
  | targetStarted | settled | targetEnded | listEmpty | limitEnd | cutOff | driveSilent | guideLimited | stowChange
  | captureReady | timeFault | linkOverrun
deriving DecidableEq, Repr

/-- R181. Bit p of the mask selects port p. -/
structure RoutingEntry where
  mask : BitVec 4
  level : Nat
deriving DecidableEq, Repr

/-- R181, R183. The pending set is listed in source order, each source at most once. -/
structure NoticePort where
  threshold : Nat
  waiting : List NoticeSource
  attention : Bool
deriving DecidableEq, Repr

/-- R181: twelve entries, in source order. -/
structure Notices where
  routing : List RoutingEntry
  ports : PerPort NoticePort
deriving DecidableEq, Repr

/-! ## Site loader (11) -/

/-- R189, words 3 and 4. -/
structure PortSettings where
  rate : Nat
  plan : Bool
  guide : Bool
  offset : Bool
  threshold : Nat
deriving DecidableEq, Repr

/-- R91. -/
structure AxisLimits where
  vmax : Nat
  amax : Nat
deriving DecidableEq, Repr

/-- R189: the fields of the image. -/
structure SiteImage where
  periodMs : Nat
  filterUs : Nat
  ports : PerPort PortSettings
  azLow : Int
  azHigh : Int
  elLow : Int
  elCeil : Int
  rotLow : Int
  rotHigh : Int
  /-- 36 values, in units of 1,000 cas. -/
  horizon : List Nat
  calm : PerAxis AxisLimits
  gust : PerAxis AxisLimits
  rateCeiling : PerAxis Nat
  tolerance : PerAxis Nat
  brakeMs : PerAxis Nat
  followLimit : PerAxis Nat
  cutMask : PerAxis (BitVec 8)
  settleHoldMs : Nat
  followGraceMs : Nat
  settleTimeoutMs : Nat
  guiderAngle : Int
  stepLimit : Nat
  guideRange : Nat
  offsetRange : Nat
  ringDepth : Nat
  coefficients : List Int
  stowElevation : Int
  routing : List RoutingEntry
deriving DecidableEq, Repr

/-- R188, R193: the image in force stands with VALID. -/
inductive LoadState where
  | loading
  | valid (image : SiteImage)
  | configFault
deriving DecidableEq, Repr

/-- The load state as replies name it. -/
inductive LoadName where
  | loading | valid | configFault
deriving DecidableEq, Repr

/-- R188. -/
inductive FaultRecord where
  | none | noMemory
  | image (word : Nat)
deriving DecidableEq, Repr

/-- R188, R191. -/
structure Loader where
  latch : Bool
  state : LoadState
  words : List Word
  nextIndex : Nat
  length : Option Nat
  fault : FaultRecord
  /-- The read of the configuration memory is running (R191). -/
  reading : Bool
deriving DecidableEq, Repr

/-! ## Replies (09, 10, 11) -/

/-- R174, numbered 0 to 21 in this order. -/
inductive Code where
  | ok | noRight | badLength | badKind | badValue | nodeOrder | listFull | poolFull | recordFull | idInUse
  | noSuchTarget | targetActive | wrongState | notTracking | guideOff | stackFull | stackEmpty | offsetRange
  | sourceActive | notConfigured | timeUnset | imageBad
deriving DecidableEq, Repr

/-- R53. Times left in ms. -/
structure SequenceView where
  listState : ListState
  phase : Phase
  activeId : Nat
  serial : Nat
  timeoutLeft : Option Nat
  holdLeft : Option Nat
  dwellLeft : Option Nat
  tracked : Nat
  lastError : PerAxis (Option Int)
  domeReady : Bool
  stow : Bool
  nextStart : Option Nat
deriving DecidableEq, Repr

/-- R66. -/
structure TimeView where
  time : Nat
  status : ClockStatus
  pendingTime : Option Nat
  holding : Bool
  lastOffset : Option Int
  pulseWatch : Bool
  periodMs : Nat
  lastInstant : Option Nat
deriving DecidableEq, Repr

/-- R87, one axis. -/
structure PointingAxis where
  demand : Int
  reference : Int
  e : Int
  w : Int
  demandStep : Int
  lastError : Option Int
  held : Bool
deriving DecidableEq, Repr

/-- R87, R177. -/
structure PointingView where
  lastInstant : Option Nat
  axes : PerAxis PointingAxis
  profile : Profile
  forceGust : Bool
  source : SourceKind
  slot : Option HandOver
  adoptedSerial : Nat
  /-- Target id and node time of the node in force, under TRACK. -/
  track : Option (Nat × Nat)
  listState : ListState
  phase : Phase
  activeId : Nat
  depth : Nat
  gAz : Int
  gEl : Int
deriving DecidableEq, Repr

/-- R118. -/
structure GuideView where
  filtered : Int × Int
  transformed : Int × Int
  applied : Int × Int
  flags : GuideFlags
  gAz : Int
  gEl : Int
deriving DecidableEq, Repr

/-- R126. Entries bottom to top. -/
structure CorrectionsView where
  theta : Int
  sin : Int
  cos : Int
  k : Int
  capped : Bool
  ring : List (Int × Int)
  gAz : Int
  gEl : Int
  lastGuide : Option GuideResult
  entries : List OffsetEntry
  totals : PerAxis Int
deriving DecidableEq, Repr

/-- R148, one axis. Times left in ms; source levels in mask order. -/
structure AxisView where
  state : AxisState
  enable : Bool
  brake : Bool
  brakeLeft : Option Nat
  lastActual : Option Int
  lastStatus : Option DriveStatus
  trackingError : Option TrackingError
  silence : Nat
  graceLeft : Option Nat
  levels : BitVec 8
  cutMask : BitVec 8
  lastCause : Option CutSource
  nextTag : BitVec 8
deriving DecidableEq, Repr

/-- The levels of the lines (00_scope, Signals). PPS acts by its edges alone (R61). -/
structure Lines where
  shutter : Bool
  domeReady : Bool
  gust : Bool
  stow : Bool
  interlock : Bool
  estop : Bool
  azLimit : Bool
  elLimit : Bool
  rotLimit : Bool
  reset : Bool
  loadsel : Bool
deriving DecidableEq, Repr

/-- R170: the rights beyond OBSERVE. -/
structure Rights where
  plan : Bool
  guide : Bool
  offset : Bool
deriving DecidableEq, Repr

/-- R172. -/
structure RefusalRecord where
  kind : Byte
  tag : Byte
  code : Code
  listState : ListState
  phase : Phase
  time : Nat
deriving DecidableEq, Repr

/-- R173. -/
structure StatusView where
  port : Port
  rights : Rights
  rate : Nat
  refusal : Option RefusalRecord
  refusalCount : Nat
  framing : Nat
  check : Nat
  overrun : Nat
  load : LoadName
  clock : ClockStatus
  listState : ListState
  phase : Phase
  activeId : Nat
  axisStates : PerAxis AxisState
  lines : Lines
  /-- The latched LOADSEL. -/
  latch : Bool
deriving DecidableEq, Repr

/-- The data of a reply, after its code and flags (R164). -/
inductive ReplyData where
  | none
  | added (serial free : Nat)
  | appended (count free : Nat)
  | deleted (free : Nat)
  | list (length free change : Nat) (records : List (Nat × TargetRecord))
  | outcomes (oldest newest : Nat) (more : Bool) (entries : List OutcomeEntry)
  | sequencing (listState : ListState) (phase : Phase) (activeId : Nat)
  | sequence (view : SequenceView)
  | timeSet (value : Nat) (status : ClockStatus)
  | time (view : TimeView)
  | pointing (view : PointingView)
  | predict (az el : Int) (time : Nat) (source : SourceKind) (beyond : Bool)
  | force (latch gust : Bool)
  | guided (view : GuideView)
  | ringReset (depth : Nat)
  | pushed (depth : Nat) (axes : PerAxis Int) (capped : Bool) (totals : PerAxis Int)
  | popped (entry : OffsetEntry) (depth : Nat) (totals : PerAxis Int)
  | cleared (removed : Nat) (totals : PerAxis Int)
  | corrections (view : CorrectionsView)
  | axisStates (states : PerAxis AxisState)
  | cutMask (before after : BitVec 8)
  | axes (views : PerAxis AxisView) (lines : Lines)
  | captures (closedLeft : Nat) (openRecord : Option (Nat × Nat)) (shutter : ShutterLevel)
      (records : List CaptureRecord)
  | status (view : StatusView)
  | notices (sources : List (NoticeSource × Nat)) (threshold : Nat)
  | routing (before after : RoutingEntry)
  | threshold (before after : Nat) (line : Bool)
  | site (echo : Option (Nat × List Word)) (load : LoadName) (next : Nat) (length : Option Nat) (fault : FaultRecord)
  | restarted (listState : ListState) (states : PerAxis AxisState)
deriving DecidableEq, Repr

/-- A reply, before it is laid out in bytes (R164, R168). -/
structure Reply where
  kind : Byte
  tag : Byte
  code : Code
  data : ReplyData
deriving DecidableEq, Repr

/-! ## Link interface (09) -/

/-- R167, R168: a request in a receive buffer, `carried` once it has been carried out. -/
structure Held where
  frame : Frame
  carried : Bool
deriving DecidableEq, Repr

/-- R163, R165, R167, R168, R170, R172, for one port. Buffers and replies oldest first; the first reply is the one in
transmission, and `tx` its frame. -/
structure LinkPort where
  rate : Nat
  rights : Rights
  receiver : Receiver
  buffers : List Held
  replies : List Reply
  tx : List Byte
  marker : Bool
  framing : Nat
  check : Nat
  overrun : Nat
  refusal : Option RefusalRecord
  refusalCount : Nat
deriving DecidableEq, Repr

/-! ## The part -/

/-- The whole state, block by block (00_scope, Block overview), with the input lines and the queue of waiting commands. -/
structure State where
  link : PerPort LinkPort
  list : ListStore
  ctrl : Controller
  traj : Trajectory
  corr : Correction
  drive : PerAxis DriveAxis
  capture : Capture
  time : TimeBase
  notice : Notices
  loader : Loader
  lines : Lines
  pending : List Instr
deriving DecidableEq, Repr

/-! ## Power-on values -/

def PerAxis.all {α : Type} (x : α) : PerAxis α := ⟨x, x, x⟩

def PerPort.all {α : Type} (x : α) : PerPort α := ⟨x, x, x, x⟩

/-- R26. -/
def ListStore.reset : ListStore := ⟨[], 1, 0, [], 1⟩

def Options.none : Options := ⟨false, false, false⟩

/-- R54. DESIGN CHOICE (log 46): dwell 0 and no options in phase NONE. -/
def Controller.reset : Controller where
  listState := .stop
  phase := .none
  activeId := 0
  dwell := 0
  options := .none
  settleTimeout := none
  settleHold := none
  dwellTimer := none
  firstTrackReached := false
  trackedUs := 0
  trackEntry := none
  lastError := .all none
  watches := []
  serial := 0

/-- R67. -/
def TimeBase.reset : TimeBase where
  clock := 0
  status := .unset
  pendingSet := none
  holdEnd := none
  pulseWatch := none
  lastOffset := none
  nextInstant := .atSiteTime 10000
  elapsed := 0
  largestReported := false

def TrajectoryAxis.reset : TrajectoryAxis := ⟨0, 0, 0, 0, 0, 0, 0, 0, 0⟩

/-- R89, R105. -/
def Trajectory.reset : Trajectory where
  axes := .all .reset
  source := .freeze
  adoptedSerial := 0
  slot := none
  lastInstant := none
  profile := .calm
  forceGust := false
  arrivalSet := false

/-- R128. -/
def Correction.reset : Correction := ⟨[], 0, 0, none, []⟩

/-- R149. DESIGN CHOICE (log 19): the cut mask, which has no value until VALID, is 0. DEDUCED (log 27): the receiver of the
drive line hunts. -/
def DriveAxis.reset : DriveAxis where
  state := .off
  enable := false
  brake := false
  nextTag := 0
  openFrame := none
  sent := []
  receiver := .hunting
  lastActual := none
  lastStatus := none
  trackingError := none
  silence := 0
  grace := none
  following := false
  brakeTimer := none
  cutMask := 0
  lastCause := none

/-- R162. DESIGN CHOICE (log 19): the count noted at an edge, before there was one, is 0. -/
def Capture.reset : Capture := ⟨.unknown, none, 0, [], 1, none⟩

/-- R187. -/
def Notices.reset : Notices where
  routing := List.replicate 12 ⟨0, 0⟩
  ports := .all ⟨0, [], false⟩

/-- R188: LOADING with the strap at `latch`; with the latch at 0 the memory read begins (R191). -/
def Loader.start (latch : Bool) : Loader where
  latch := latch
  state := .loading
  words := []
  nextIndex := 0
  length := none
  fault := .none
  reading := !latch

def Rights.observe : Rights := ⟨false, false, false⟩

/-- R179: 115,200 is rate code 1 (R163). -/
def LinkPort.reset : LinkPort where
  rate := 1
  rights := .observe
  receiver := .hunting
  buffers := []
  replies := []
  tx := []
  marker := false
  framing := 0
  check := 0
  overrun := 0
  refusal := none
  refusalCount := 0

/-- DESIGN CHOICE (log 7): every line is low at power-on. -/
def Lines.low : Lines := ⟨false, false, false, false, false, false, false, false, false, false, false⟩

/-- Every block at its power-on values (R188), with the lines as they stand and the queue as it stands. -/
def State.fresh (latch : Bool) (lines : Lines) (queue : List Instr) : State where
  link := .all .reset
  list := .reset
  ctrl := .reset
  traj := .reset
  corr := .reset
  drive := .all .reset
  capture := .reset
  time := .reset
  notice := .reset
  loader := .start latch
  lines := lines
  pending := queue

/-- The part after power-on with the strap and every line low, and no command waiting (log 7). -/
def State.reset : State := .fresh false .low []

end Sys2Proof.Machine
end

