-- ==== Sys2Proof/Machine/Constants.lean ====
section
/-! DEFINITION. Constants: the fixed numbers of the manual, each with its rule. -/

namespace Sys2Proof.Machine

/-- One turn T in cas (00_scope, Angles). -/
def turn : Int := 129600000

def halfTurn : Int := 64800000

def quarterTurn : Int := 32400000

/-- The largest value the site clock holds (R55). -/
def clockMax : Nat := 281474976710655

/-- The largest time SET_TIME takes (R58). -/
def setTimeMax : Nat := 281474976000000

/-- One second in µs. -/
def second : Nat := 1000000

/-- The window of R61, in µs. -/
def ppsWindow : Nat := 100

/-- The pulse watch of R63, in µs. -/
def pulseWatchTime : Nat := 1100000

/-- The demand period while the load state is not VALID, in ms (R64). -/
def unloadedPeriodMs : Nat := 10

/-- Node spacing, start before the first node, expire after the last, and run-out: 300 s in µs (R4, R83). -/
def nodeSpan : Nat := 300000000

/-- Rate units times µs in one cas (R71). -/
def rateScale : Int := 256000000

/-- The gap of R165 in µs. -/
def gapLimit : Nat := 2000

/-- The largest LEN a receiver assembles (R165). -/
def requestLenMax : Nat := 96

/-- SYNC (R164). -/
def syncByte : Byte := 0xC3

/-- Capacities: records (R5), pool nodes (R8), nodes of a record (R4), log (R24), captures (R154), stack (R121). -/
def listCapacity : Nat := 64

def poolCapacity : Nat := 512

def recordCapacity : Nat := 16

def logCapacity : Nat := 32

def fifoCapacity : Nat := 16

def stackCapacity : Nat := 4

/-- The receive buffers of a port (R167). -/
def bufferCapacity : Nat := 2

/-- 1.0 in Q30 (00_scope, Arithmetic). -/
def oneQ30 : Int := 1073741824

/-- The secant cap (R110). -/
def secantCap : Int := 67108864

/-- The bound of a sky offset (R121). -/
def skyOffsetMax : Int := 3600000

/-- The largest dwell in ms (R1). -/
def dwellMax : Nat := 3600000

/-- The largest lead of READ_PREDICT in ms (R88). -/
def leadMax : Nat := 10000

/-- One horizon sector in cas (R86). -/
def sectorSpan : Int := 3600000

/-- The silence count at which DRIVE_LOSS is active (R139, R142). -/
def silenceLimit : Nat := 3

/-- The largest two-byte count (R2, R7, R165, R172). -/
def count16Max : Nat := 65535

/-- The largest four-byte serial (R6, R23, R153). -/
def serial32Max : Nat := 4294967295

end Sys2Proof.Machine
end

