-- ==== Sys2Proof/Machine/Ops.lean ====
section
/-! DEFINITION. Ops: the shared operations on the part's data: one axis or port of several, the manual's arithmetic,
counts that wrap or hold, block updates, and the parameters the site image gives. -/

namespace Sys2Proof.Machine

/-! ## Axes and ports -/

def PerAxis.get {α : Type} (v : PerAxis α) : Axis → α
  | .az => v.az
  | .el => v.el
  | .rot => v.rot

def PerAxis.set {α : Type} (v : PerAxis α) (a : Axis) (x : α) : PerAxis α :=
  match a with
  | .az => { v with az := x }
  | .el => { v with el := x }
  | .rot => { v with rot := x }

/-- The value of each axis, formed from the axis. -/
def PerAxis.build {α : Type} (f : Axis → α) : PerAxis α := ⟨f .az, f .el, f .rot⟩

def PerAxis.map {α β : Type} (f : α → β) (v : PerAxis α) : PerAxis β := ⟨f v.az, f v.el, f v.rot⟩

def PerAxis.toList {α : Type} (v : PerAxis α) : List α := [v.az, v.el, v.rot]

/-- AZ, EL, ROT. -/
def allAxes : List Axis := [.az, .el, .rot]

/-- The axis's place in a mask or a reply: AZ is the lowest bit (00_scope, Axes). -/
def axisNumber : Axis → Nat
  | .az => 0
  | .el => 1
  | .rot => 2

def PerPort.get {α : Type} (v : PerPort α) : Port → α
  | .p0 => v.p0
  | .p1 => v.p1
  | .p2 => v.p2
  | .p3 => v.p3

def PerPort.set {α : Type} (v : PerPort α) (p : Port) (x : α) : PerPort α :=
  match p with
  | .p0 => { v with p0 := x }
  | .p1 => { v with p1 := x }
  | .p2 => { v with p2 := x }
  | .p3 => { v with p3 := x }

def PerPort.build {α : Type} (f : Port → α) : PerPort α := ⟨f .p0, f .p1, f .p2, f .p3⟩

def allPorts : List Port := [.p0, .p1, .p2, .p3]

def portNumber : Port → Nat
  | .p0 => 0
  | .p1 => 1
  | .p2 => 2
  | .p3 => 3

/-! ## Arithmetic (00_scope, Arithmetic) -/

/-- *round*: to nearest, halves away from zero. `b` is positive. -/
def roundDiv (a b : Int) : Int :=
  if 0 ≤ a then (2 * a + b) / (2 * b) else -((2 * -a + b) / (2 * b))

/-- Reduced into [0, T). -/
def reduceTurn (a : Int) : Int := a % turn

/-- Reduced into [−half turn, +half turn). -/
def reduceHalf (a : Int) : Int := (a + halfTurn) % turn - halfTurn

/-- −1, 0 or +1. -/
def signOf (a : Int) : Int := if a = 0 then 0 else if 0 < a then 1 else -1

def absInt (a : Int) : Int := if 0 ≤ a then a else -a

/-- A division rounded up. -/
def ceilDiv (a b : Nat) : Nat := (a + (b - 1)) / b

/-- µs left of a timer, in ms, rounded up (R53, R148). -/
def msLeft (now expiry : Nat) : Nat := ceilDiv (expiry - now) 1000

/-- A timer has expired: it runs and the clock has reached its time (R57). -/
def timerDue (now : Nat) (expiry : Option Nat) : Bool :=
  match expiry with
  | none => false
  | some x => x ≤ now

/-- A count from 0 to 65,535 that passes from 65,535 to 0 (R7, R29, R172). -/
def bump16 (n : Nat) : Nat := (n + 1) % 65536

/-- A count from 0 to 65,535 that holds at 65,535 (R2, R157, R165). -/
def holdUp16 (n : Nat) : Nat := if n < count16Max then n + 1 else count16Max

/-- A serial from 1 to 4,294,967,295 after which comes 1 (R6, R23, R153). -/
def nextSerial32 (n : Nat) : Nat := if n < serial32Max then n + 1 else 1

/-- The first multiple of a period strictly after a time (R65). -/
def nextMultiple (period t : Nat) : Nat := (t / period + 1) * period

/-- `a ≤ x ≤ b`. -/
def within (a x b : Int) : Bool := a ≤ x && x ≤ b

/-! ## Block updates -/

namespace State

def setLink (s : State) (v : PerPort LinkPort) : State := { s with link := v }

def setList (s : State) (v : ListStore) : State := { s with list := v }

def setCtrl (s : State) (v : Controller) : State := { s with ctrl := v }

def setTraj (s : State) (v : Trajectory) : State := { s with traj := v }

def setCorr (s : State) (v : Correction) : State := { s with corr := v }

def setDrive (s : State) (v : PerAxis DriveAxis) : State := { s with drive := v }

def setCapture (s : State) (v : Capture) : State := { s with capture := v }

def setTime (s : State) (v : TimeBase) : State := { s with time := v }

def setNotice (s : State) (v : Notices) : State := { s with notice := v }

def setLoader (s : State) (v : Loader) : State := { s with loader := v }

def setLines (s : State) (v : Lines) : State := { s with lines := v }

def setPending (s : State) (v : List Instr) : State := { s with pending := v }

end State

/-- One port of the link interface changed. -/
def State.modPort (s : State) (p : Port) (f : LinkPort → LinkPort) : State :=
  s.setLink (s.link.set p (f (s.link.get p)))

/-- One axis of the drive controller changed. -/
def State.modDrive (s : State) (a : Axis) (f : DriveAxis → DriveAxis) : State :=
  s.setDrive (s.drive.set a (f (s.drive.get a)))

/-- One axis of the trajectory unit changed. -/
def State.modTraj (s : State) (a : Axis) (f : TrajectoryAxis → TrajectoryAxis) : State :=
  s.setTraj { s.traj with axes := s.traj.axes.set a (f (s.traj.axes.get a)) }

/-! ## The site image in force (R193) -/

/-- What the parameters read as while there is no image in force; no rule uses them then. -/
def noImage : SiteImage where
  periodMs := unloadedPeriodMs
  filterUs := 0
  ports := .all ⟨1, false, false, false, 0⟩
  azLow := 0
  azHigh := 0
  elLow := 0
  elCeil := 0
  rotLow := 0
  rotHigh := 0
  horizon := []
  calm := .all ⟨0, 0⟩
  gust := .all ⟨0, 0⟩
  rateCeiling := .all 0
  tolerance := .all 0
  brakeMs := .all 0
  followLimit := .all 0
  cutMask := .all 0
  settleHoldMs := 0
  followGraceMs := 0
  settleTimeoutMs := 0
  guiderAngle := 0
  stepLimit := 0
  guideRange := 0
  offsetRange := 0
  ringDepth := 0
  coefficients := []
  stowElevation := 0
  routing := []

/-- The image in force, while the load state is VALID. -/
def State.image? (s : State) : Option SiteImage :=
  match s.loader.state with
  | .valid image => some image
  | .loading | .configFault => none

/-- The parameters in force. Before VALID: P is 10 ms (R64), the filter interval 0 (R150), the guider angle 0 (R126). -/
def State.image (s : State) : SiteImage := s.image?.getD noImage

/-- The load state is VALID. -/
def State.isValid (s : State) : Bool := s.image?.isSome

/-- The demand period in force, in µs (R64). -/
def State.period (s : State) : Nat := s.image.periodMs * 1000

def State.loadName (s : State) : LoadName :=
  match s.loader.state with
  | .loading => .loading
  | .valid _ => .valid
  | .configFault => .configFault

/-- The limits of the profile selected at the last demand instant (R91, R92). -/
def State.limits (s : State) : PerAxis AxisLimits :=
  match s.traj.profile with
  | .calm => s.image.calm
  | .gust => s.image.gust

/-! ## Axis states (R80, R129) -/

/-- The generator drives an axis that is ON or STOPPING; the drive controller holds the others. -/
def AxisState.driven : AxisState → Bool
  | .on | .stopping _ => true
  | .off | .releasing | .cut => false

def AxisState.isStopping : AxisState → Bool
  | .stopping _ => true
  | .off | .releasing | .on | .cut => false

/-- RELEASING, ON or STOPPING: the states a cut-off source takes an axis from (R143). -/
def AxisState.canCut : AxisState → Bool
  | .releasing | .on | .stopping _ => true
  | .off | .cut => false

def State.driven (s : State) (a : Axis) : Bool := (s.drive.get a).state.driven

/-- All three axes are ON (R31). -/
def State.allOn (s : State) : Bool := allAxes.all fun a => (s.drive.get a).state == .on

/-- A target is active: the phase is not NONE (R28). -/
def State.targetActive (s : State) : Bool := s.ctrl.phase != .none

/-- While the RESET line is asserted the part holds its power-on values (R188). -/
def State.heldInReset (s : State) : Bool := s.lines.reset

end Sys2Proof.Machine
end

