-- ==== Sys2Proof/Machine/Flags.lean ====
section
/-! DEFINITION. Flags: raising a notice, and the attention lines it moves (R180 to R183). -/

namespace Sys2Proof.Machine

/-- The source's number (R180). -/
def noticeNumber : NoticeSource → Nat
  | .targetStarted => 0
  | .settled => 1
  | .targetEnded => 2
  | .listEmpty => 3
  | .limitEnd => 4
  | .cutOff => 5
  | .driveSilent => 6
  | .guideLimited => 7
  | .stowChange => 8
  | .captureReady => 9
  | .timeFault => 10
  | .linkOverrun => 11

def allNoticeSources : List NoticeSource :=
  [.targetStarted, .settled, .targetEnded, .listEmpty, .limitEnd, .cutOff, .driveSilent, .guideLimited, .stowChange,
   .captureReady, .timeFault, .linkOverrun]

/-- The routing entry of a source (R181). -/
def routingOf (routing : List RoutingEntry) (src : NoticeSource) : RoutingEntry :=
  routing.getD (noticeNumber src) ⟨0, 0⟩

/-- A pending set with a source added: in source order, each once (R182). -/
def addSource (src : NoticeSource) : List NoticeSource → List NoticeSource
  | [] => [src]
  | x :: rest =>
    if noticeNumber src < noticeNumber x then src :: x :: rest
    else if x = src then x :: rest
    else x :: addSource src rest

/-- The condition of a port's attention line (R183). -/
def attentionWanted (routing : List RoutingEntry) (p : NoticePort) : Bool :=
  p.waiting.any fun src =>
    let level := (routingOf routing src).level
    p.threshold < level || level == 3

/-- A port's line judged (R183). -/
def judgePort (routing : List RoutingEntry) (p : NoticePort) : NoticePort :=
  { p with attention := attentionWanted routing p }

/-- Every port's line judged. -/
def judgeAttention (n : Notices) : Notices :=
  { n with ports := PerPort.build fun p => judgePort n.routing (n.ports.get p) }

/-- A raise (R182): the source joins the pending set of every port its entry selects; with level 0 or mask 0 nothing
changes. -/
def raiseIn (n : Notices) (src : NoticeSource) : Notices :=
  let entry := routingOf n.routing src
  if entry.level = 0 ∨ entry.mask = 0 then n
  else
    judgeAttention
      { n with
        ports := PerPort.build fun p =>
          let q := n.ports.get p
          if entry.mask.getLsbD (portNumber p) then { q with waiting := addSource src q.waiting } else q }

/-- A block raises a source. -/
def raise (src : NoticeSource) (s : State) : State := s.setNotice (raiseIn s.notice src)

end Sys2Proof.Machine
end

