-- ==== Sys2Proof/Machine/CaptureOps.lean ====
section
/-! DEFINITION. CaptureOps: what the capture unit does with reports and edges (08). -/

namespace Sys2Proof.Machine

/-- The record is OPEN. -/
def CaptureRecord.isOpen (r : CaptureRecord) : Bool := r.closing.isNone

/-- The open record, when there is one (R154). -/
def openRecord (fifo : List CaptureRecord) : Option CaptureRecord := fifo.find? (·.isOpen)

/-- The open record changed. -/
def modOpen (f : CaptureRecord → CaptureRecord) (fifo : List CaptureRecord) : List CaptureRecord :=
  fifo.map fun r => if r.isOpen then f r else r

/-- The capture unit is told that a target has ended (R158). -/
def captureTargetEnded (id : Nat) (s : State) : State :=
  s.setCapture
    { s.capture with
      fifo := modOpen (fun r => if r.targetId = id ∧ id ≠ 0 then { r with targetEnded := true } else r) s.capture.fifo }

/-- The open record accounts for the active target (R155, R157). -/
def accounts (ctrl : Controller) (r : CaptureRecord) : Bool :=
  !r.targetEnded && r.targetId != 0 && ctrl.activeId == r.targetId

/-- An accepted guide sample counted in the open record (R157). -/
def captureGuide (s : State) : State :=
  s.setCapture
    { s.capture with
      fifo :=
        modOpen (fun r => if accounts s.ctrl r then { r with guideCount := holdUp16 r.guideCount } else r)
          s.capture.fifo }

/-- The collection a report joins: the one in progress for its instant, or a new one (R155). DESIGN CHOICE (log 41):
instants of one site time are not told apart. -/
def collect (c : Option Collection) (a : Axis) (err : TrackingError) : Collection :=
  match c with
  | none => ⟨err.time, (PerAxis.all none).set a (some err.error)⟩
  | some c =>
    if c.time = err.time then { c with errors := c.errors.set a (some err.error) }
    else ⟨err.time, (PerAxis.all none).set a (some err.error)⟩

/-- Every error of an instant is within its axis's settle tolerance (R155). -/
def withinTolerance (tolerance : PerAxis Nat) (errors : PerAxis (Option Int)) : Bool :=
  allAxes.all fun a =>
    match errors.get a with
    | none => false
    | some x => x.natAbs ≤ tolerance.get a

/-- A tracking-error report taken by the capture unit while a record is open (R155): a complete instant is judged. -/
def captureReport (a : Axis) (err : TrackingError) (s : State) : State :=
  match openRecord s.capture.fifo with
  | none => s
  | some r =>
    let c := collect s.capture.collection a err
    if c.errors.toList.all (·.isSome) then
      let counted := accounts s.ctrl r && s.ctrl.phase == .track && withinTolerance s.image.tolerance c.errors
      s.setCapture
        { s.capture with
          collection := none
          fifo := if counted then modOpen (fun q => { q with onTarget := q.onTarget + s.period }) s.capture.fifo
            else s.capture.fifo }
    else s.setCapture { s.capture with collection := some c }

/-- The demand instant stamped in a record (R152); a free value before the first instant (log 13). -/
def stampInstant (s : State) : Nat :=
  match s.traj.lastInstant with
  | some t => t
  | none => Config.stampBeforeInstant

/-- An open edge at an edge time (R152 to R154): a record at the new end, the oldest discarded when 16 are held. -/
def openEdge (edgeTime : Nat) (s : State) : State :=
  if !s.isValid then s
  else
    let full := fifoCapacity ≤ s.capture.fifo.length
    let r : CaptureRecord :=
      { serial := s.capture.nextSerial
        openTime := edgeTime
        targetId := s.ctrl.activeId
        phase := s.ctrl.phase
        instant := stampInstant s
        demands := s.traj.axes.map (·.issued)
        depth := s.corr.stack.length
        earlierLost := full
        targetEnded := false
        onTarget := 0
        guideCount := 0
        closing := none }
    s.setCapture
      { s.capture with
        fifo := (if full then s.capture.fifo.tail else s.capture.fifo) ++ [r]
        nextSerial := nextSerial32 s.capture.nextSerial
        collection := none }

/-- A close edge (R156, R159): the open record closes and CAPTURE_READY is raised; without one it is disregarded. -/
def closeEdge (edgeTime duration : Nat) (s : State) : State :=
  match openRecord s.capture.fifo with
  | none => s
  | some _ =>
    raise .captureReady
      (s.setCapture
        { s.capture with
          fifo := modOpen (fun r => { r with closing := some (edgeTime, duration) }) s.capture.fifo
          collection := none })

/-- The level as the filter holds it. -/
def levelOf (high : Bool) : ShutterLevel := if high then .high else .low

/-- A candidate is accepted (R150, R151): its edge, if the level was known, dated back by the filter interval. -/
def acceptCandidate (c : Candidate) (s : State) : State :=
  let old := s.capture.accepted
  let edgeTime := s.time.clock - s.image.filterUs
  let s1 := s.setCapture { s.capture with accepted := levelOf c.level, candidate := none }
  match old, c.level with
  | .low, true => openEdge edgeTime (s1.setCapture { s1.capture with edgeCount := c.since })
  | .high, false =>
    closeEdge edgeTime (c.since - s.capture.edgeCount) (s1.setCapture { s1.capture with edgeCount := c.since })
  | .low, false | .high, true | .unknown, _ => s1

/-- The candidate has held for the filter interval (R150). -/
def candidateReady (s : State) (c : Candidate) : Bool := s.image.filterUs ≤ s.time.elapsed - c.since

/-- The line stands at a level (R150): a candidate begins while it differs from the accepted level, and is abandoned when it
returns. A candidate whose level the line keeps goes on. -/
def judgeLevel (level : Bool) (s : State) : State :=
  if levelOf level = s.capture.accepted then s.setCapture { s.capture with candidate := none }
  else
    match s.capture.candidate with
    | some c =>
      if c.level = level then s
      else s.setCapture { s.capture with candidate := some ⟨level, s.time.elapsed⟩ }
    | none => s.setCapture { s.capture with candidate := some ⟨level, s.time.elapsed⟩ }

end Sys2Proof.Machine
end

