-- ==== Sys2Proof/WellFormed.lean ====
section
/-! DEFINITION. WellFormed: what a command must satisfy to be one the part's inputs can carry. Operand values that the
owning block itself refuses (BAD_VALUE and the rest) are well formed: refusing them is part of the meaning. -/

namespace Sys2Proof

/-- ADD_TARGET and APPEND_NODES carry 1 to 4 nodes (R11, R14, R174). -/
def nodesWellFormed (nodes : List WireNode) : Bool :=
  1 ≤ nodes.length && nodes.length ≤ 4

/-- SITE_WORDS carries 1 to 16 words (R174, R192). -/
def wordsWellFormed (words : List Word) : Bool :=
  1 ≤ words.length && words.length ≤ 16

/-- A read of the memory takes at most L = 256 words of four bytes (R189, R191). -/
def memoryWellFormed (bytes : List Byte) : Bool :=
  bytes.length ≤ 1024

/-- A drive reply has at least one character and no more than the longest frame (R135, R165). -/
def charsWellFormed (chars : List Byte) : Bool :=
  1 ≤ chars.length && chars.length ≤ 198

/-- The check on a command. -/
def Instr.wellFormed : Instr → Bool
  | .addTarget _ _ _ nodes => nodesWellFormed nodes
  | .appendNodes _ _ _ nodes => nodesWellFormed nodes
  | .siteWords _ _ _ words => wordsWellFormed words
  | .configMemoryReadEnd bytes => memoryWellFormed bytes
  | .driveReply _ chars => charsWellFormed chars
  | .startWatchExpiry id => id != 0
  | .recordExpiry id => id != 0
  | .powerOn _ | .resetAssert | .resetFall _ | .portRateChange _ | .linkCharacter _ _ | .linkGapExpiry _
  | .replySent _ | .deleteTarget _ _ _ | .readList _ _ _ | .readOutcomes _ _ _ | .run _ _ | .hold _ _ | .stop _ _
  | .abort _ _ _ | .release _ _ _ | .readSequence _ _ | .setTime _ _ _ | .readTime _ _ | .readPointing _ _
  | .readPredict _ _ _ | .forceGust _ _ | .clearForce _ _ | .guideSample _ _ _ _ | .guideReset _ _
  | .pushOffset _ _ _ _ _ | .popOffset _ _ | .clearOffsets _ _ | .readCorrections _ _ | .enableAxes _ _ _
  | .disableAxes _ _ _ | .setCutMask _ _ _ _ | .readAxes _ _ | .readCaptures _ _ | .readStatus _ _ | .readNotices _ _
  | .setRouting _ _ _ _ _ | .setThreshold _ _ _ | .restart _ _ | .ppsEdge | .ppsHoldEnd | .pulseWatchExpiry
  | .clockAtLargestValue | .demandInstant _ | .graceTimerExpiry _ | .cutSourceRise _ _ | .brakeTimerExpiryReleasing _
  | .brakeTimerExpirySetting _ | .settleHoldExpiry | .settleTimeoutExpiry | .dwellExpiry | .stowRise | .stowFall
  | .domeReadyChange _ | .shutterChange _ | .shutterCandidateAccepted => true

end Sys2Proof
end

