-- ==== Sys2Proof/Decode.lean ====
section
/-! DEFINITION. Decode: the request frames of the client links (R164, R174, R175, R176) read into commands, and
written from them. The opcode table gives no row any bits, so `decodeTableWord` answers none. -/

namespace Sys2Proof

/-- No row of spec/opcode_table.json gives bits, so no word spells a command. -/
def decodeTableWord (_nbits _w : Nat) : Option Instr := none

/-! ## The table of request kinds (R174) -/

/-- The kind numbers of R174. -/
def RequestKind.number : RequestKind → Byte
  | .addTarget => 0x01
  | .appendNodes => 0x02
  | .deleteTarget => 0x03
  | .readList => 0x04
  | .readOutcomes => 0x05
  | .run => 0x10
  | .hold => 0x11
  | .stop => 0x12
  | .abort => 0x13
  | .release => 0x14
  | .readSequence => 0x15
  | .setTime => 0x20
  | .readTime => 0x21
  | .readPointing => 0x30
  | .readPredict => 0x31
  | .forceGust => 0x38
  | .clearForce => 0x39
  | .guideSample => 0x40
  | .guideReset => 0x41
  | .pushOffset => 0x42
  | .popOffset => 0x43
  | .clearOffsets => 0x44
  | .readCorrections => 0x45
  | .enableAxes => 0x50
  | .disableAxes => 0x51
  | .setCutMask => 0x52
  | .readAxes => 0x53
  | .readCaptures => 0x60
  | .readStatus => 0x70
  | .readNotices => 0x80
  | .setRouting => 0x81
  | .setThreshold => 0x82
  | .siteWords => 0x90
  | .restart => 0x91

/-- Every kind, in the table's order. -/
def allRequestKinds : List RequestKind :=
  [.addTarget, .appendNodes, .deleteTarget, .readList, .readOutcomes, .run, .hold, .stop, .abort, .release,
   .readSequence, .setTime, .readTime, .readPointing, .readPredict, .forceGust, .clearForce, .guideSample, .guideReset,
   .pushOffset, .popOffset, .clearOffsets, .readCorrections, .enableAxes, .disableAxes, .setCutMask, .readAxes,
   .readCaptures, .readStatus, .readNotices, .setRouting, .setThreshold, .siteWords, .restart]

/-- The kind a KIND byte names, if R174's table has it. -/
def requestKindOf (b : Byte) : Option RequestKind :=
  allRequestKinds.find? fun k => k.number == b

/-- The request LENs, in words, that R174 gives the kind. -/
def RequestKind.lenOk (k : RequestKind) (len : Nat) : Bool :=
  match k with
  | .addTarget => len == 25 || len == 40 || len == 55 || len == 70
  | .appendNodes => len == 16 || len == 31 || len == 46 || len == 61
  | .siteWords => 3 ≤ len && len ≤ 33 && len % 2 == 1
  | .deleteTarget | .readList | .abort | .release | .readPredict | .enableAxes | .disableAxes | .setCutMask
  | .setThreshold => len == 1
  | .readOutcomes | .guideSample | .setRouting => len == 2
  | .setTime => len == 3
  | .pushOffset => len == 6
  | .run | .hold | .stop | .readSequence | .readTime | .readPointing | .forceGust | .clearForce | .guideReset
  | .popOffset | .clearOffsets | .readCorrections | .readAxes | .readCaptures | .readStatus | .readNotices
  | .restart => len == 0

/-- LEN of a frame: its payload in 16-bit words (R164). -/
def Frame.len (f : Frame) : Nat := f.payload.length / 2

/-! ## Fields, high byte first (R164, R175) -/

def bytes2 (x : BitVec 16) : List Byte := [x.extractLsb' 8 8, x.extractLsb' 0 8]

def bytes4 (x : BitVec 32) : List Byte :=
  [x.extractLsb' 24 8, x.extractLsb' 16 8, x.extractLsb' 8 8, x.extractLsb' 0 8]

def bytes6 (x : BitVec 48) : List Byte :=
  [x.extractLsb' 40 8, x.extractLsb' 32 8, x.extractLsb' 24 8, x.extractLsb' 16 8, x.extractLsb' 8 8,
   x.extractLsb' 0 8]

/-- The byte at an offset of a payload; 0 past its end. -/
def byteAt (bs : List Byte) (i : Nat) : Byte := bs.getD i 0

def halfAt (bs : List Byte) (i : Nat) : BitVec 16 := byteAt bs i ++ byteAt bs (i + 1)

def wordAt (bs : List Byte) (i : Nat) : BitVec 32 := halfAt bs i ++ halfAt bs (i + 2)

def timeAt (bs : List Byte) (i : Nat) : BitVec 48 := wordAt bs i ++ halfAt bs (i + 4)

/-! ## Node and header layouts (R176) -/

def nodeBytes (n : WireNode) : List Byte :=
  bytes6 n.time ++ bytes4 n.az ++ bytes4 n.el ++ bytes4 n.rot ++ bytes4 n.azRate ++ bytes4 n.elRate ++ bytes4 n.rotRate

def nodeAt (bs : List Byte) (i : Nat) : WireNode where
  time := timeAt bs i
  az := wordAt bs (i + 6)
  el := wordAt bs (i + 10)
  rot := wordAt bs (i + 14)
  azRate := wordAt bs (i + 18)
  elRate := wordAt bs (i + 22)
  rotRate := wordAt bs (i + 26)

def headerBytes (h : WireHeader) : List Byte :=
  bytes2 h.id ++ bytes6 h.start ++ bytes6 h.expire ++ bytes4 h.dwell ++ [h.wrap, h.options]

def headerAt (bs : List Byte) (i : Nat) : WireHeader where
  id := halfAt bs i
  start := timeAt bs (i + 2)
  expire := timeAt bs (i + 8)
  dwell := wordAt bs (i + 14)
  wrap := byteAt bs (i + 18)
  options := byteAt bs (i + 19)

/-- `count` nodes from an offset on, 30 bytes each. -/
def nodesAt (bs : List Byte) (i : Nat) : Nat → List WireNode
  | 0 => []
  | count + 1 => nodeAt bs i :: nodesAt bs (i + 30) count

/-- `count` image words from an offset on, 4 bytes each. -/
def wordsAt (bs : List Byte) (i : Nat) : Nat → List Word
  | 0 => []
  | count + 1 => wordAt bs i :: wordsAt bs (i + 4) count

/-! ## Requests -/

/-- The frame of a request and the port it comes in on; events of the other rows have none. A payload is padded to whole
words with 0 (R175). -/
def Instr.request : Instr → Option (Port × Frame)
  | .addTarget p t h ns => some (p, ⟨RequestKind.addTarget.number, t, headerBytes h ++ ns.flatMap nodeBytes⟩)
  | .appendNodes p t id ns => some (p, ⟨RequestKind.appendNodes.number, t, bytes2 id ++ ns.flatMap nodeBytes⟩)
  | .deleteTarget p t id => some (p, ⟨RequestKind.deleteTarget.number, t, bytes2 id⟩)
  | .readList p t pos => some (p, ⟨RequestKind.readList.number, t, [pos, 0]⟩)
  | .readOutcomes p t after => some (p, ⟨RequestKind.readOutcomes.number, t, bytes4 after⟩)
  | .run p t => some (p, ⟨RequestKind.run.number, t, []⟩)
  | .hold p t => some (p, ⟨RequestKind.hold.number, t, []⟩)
  | .stop p t => some (p, ⟨RequestKind.stop.number, t, []⟩)
  | .abort p t id => some (p, ⟨RequestKind.abort.number, t, bytes2 id⟩)
  | .release p t id => some (p, ⟨RequestKind.release.number, t, bytes2 id⟩)
  | .readSequence p t => some (p, ⟨RequestKind.readSequence.number, t, []⟩)
  | .setTime p t time => some (p, ⟨RequestKind.setTime.number, t, bytes6 time⟩)
  | .readTime p t => some (p, ⟨RequestKind.readTime.number, t, []⟩)
  | .readPointing p t => some (p, ⟨RequestKind.readPointing.number, t, []⟩)
  | .readPredict p t lead => some (p, ⟨RequestKind.readPredict.number, t, bytes2 lead⟩)
  | .forceGust p t => some (p, ⟨RequestKind.forceGust.number, t, []⟩)
  | .clearForce p t => some (p, ⟨RequestKind.clearForce.number, t, []⟩)
  | .guideSample p t dx dy => some (p, ⟨RequestKind.guideSample.number, t, bytes2 dx ++ bytes2 dy⟩)
  | .guideReset p t => some (p, ⟨RequestKind.guideReset.number, t, []⟩)
  | .pushOffset p t dx dy drot =>
    some (p, ⟨RequestKind.pushOffset.number, t, bytes4 dx ++ bytes4 dy ++ bytes4 drot⟩)
  | .popOffset p t => some (p, ⟨RequestKind.popOffset.number, t, []⟩)
  | .clearOffsets p t => some (p, ⟨RequestKind.clearOffsets.number, t, []⟩)
  | .readCorrections p t => some (p, ⟨RequestKind.readCorrections.number, t, []⟩)
  | .enableAxes p t mask => some (p, ⟨RequestKind.enableAxes.number, t, [mask, 0]⟩)
  | .disableAxes p t mask => some (p, ⟨RequestKind.disableAxes.number, t, [mask, 0]⟩)
  | .setCutMask p t axis mask => some (p, ⟨RequestKind.setCutMask.number, t, [axis, mask]⟩)
  | .readAxes p t => some (p, ⟨RequestKind.readAxes.number, t, []⟩)
  | .readCaptures p t => some (p, ⟨RequestKind.readCaptures.number, t, []⟩)
  | .readStatus p t => some (p, ⟨RequestKind.readStatus.number, t, []⟩)
  | .readNotices p t => some (p, ⟨RequestKind.readNotices.number, t, []⟩)
  | .setRouting p t source mask level => some (p, ⟨RequestKind.setRouting.number, t, [source, mask, level, 0]⟩)
  | .setThreshold p t threshold => some (p, ⟨RequestKind.setThreshold.number, t, [threshold, 0]⟩)
  | .siteWords p t start words =>
    some (p, ⟨RequestKind.siteWords.number, t, bytes2 start ++ words.flatMap bytes4⟩)
  | .restart p t => some (p, ⟨RequestKind.restart.number, t, []⟩)
  | .powerOn _ | .resetAssert | .resetFall _ | .configMemoryReadEnd _ | .portRateChange _ | .linkCharacter _ _
  | .linkGapExpiry _ | .replySent _ | .ppsEdge | .ppsHoldEnd | .pulseWatchExpiry | .clockAtLargestValue
  | .demandInstant _ | .driveReply _ _ | .graceTimerExpiry _ | .cutSourceRise _ _ | .brakeTimerExpiryReleasing _
  | .brakeTimerExpirySetting _ | .startWatchExpiry _ | .recordExpiry _ | .settleHoldExpiry | .settleTimeoutExpiry
  | .dwellExpiry | .stowRise | .stowFall | .domeReadyChange _ | .shutterChange _ | .shutterCandidateAccepted => none

/-- The command of a request of a known kind, its operands read at the offsets of R175 and R176. -/
def requestOfKind (k : RequestKind) (p : Port) (t : Byte) (bs : List Byte) : Instr :=
  match k with
  | .addTarget => .addTarget p t (headerAt bs 0) (nodesAt bs 20 ((bs.length - 20) / 30))
  | .appendNodes => .appendNodes p t (halfAt bs 0) (nodesAt bs 2 ((bs.length - 2) / 30))
  | .deleteTarget => .deleteTarget p t (halfAt bs 0)
  | .readList => .readList p t (byteAt bs 0)
  | .readOutcomes => .readOutcomes p t (wordAt bs 0)
  | .run => .run p t
  | .hold => .hold p t
  | .stop => .stop p t
  | .abort => .abort p t (halfAt bs 0)
  | .release => .release p t (halfAt bs 0)
  | .readSequence => .readSequence p t
  | .setTime => .setTime p t (timeAt bs 0)
  | .readTime => .readTime p t
  | .readPointing => .readPointing p t
  | .readPredict => .readPredict p t (halfAt bs 0)
  | .forceGust => .forceGust p t
  | .clearForce => .clearForce p t
  | .guideSample => .guideSample p t (halfAt bs 0) (halfAt bs 2)
  | .guideReset => .guideReset p t
  | .pushOffset => .pushOffset p t (wordAt bs 0) (wordAt bs 4) (wordAt bs 8)
  | .popOffset => .popOffset p t
  | .clearOffsets => .clearOffsets p t
  | .readCorrections => .readCorrections p t
  | .enableAxes => .enableAxes p t (byteAt bs 0)
  | .disableAxes => .disableAxes p t (byteAt bs 0)
  | .setCutMask => .setCutMask p t (byteAt bs 0) (byteAt bs 1)
  | .readAxes => .readAxes p t
  | .readCaptures => .readCaptures p t
  | .readStatus => .readStatus p t
  | .readNotices => .readNotices p t
  | .setRouting => .setRouting p t (byteAt bs 0) (byteAt bs 1) (byteAt bs 2)
  | .setThreshold => .setThreshold p t (byteAt bs 0)
  | .siteWords => .siteWords p t (halfAt bs 0) (wordsAt bs 2 ((bs.length - 2) / 4))
  | .restart => .restart p t

/-- The command a request frame spells: none when its KIND is not in R174's table, or its LEN is not one the table gives
that kind (R169, orders 1 and 2). -/
def decodeRequest (p : Port) (f : Frame) : Option Instr :=
  match requestKindOf f.kind with
  | none => none
  | some k => if k.lenOk f.len then some (requestOfKind k p f.tag f.payload) else none

end Sys2Proof
end

