-- ==== Sys2Proof/Machine/Frames.lean ====
section
/-! DEFINITION. Frames: the form of a frame, its check, and the receiver that assembles one character by character
(R164 to R166), for client links and drive lines alike (R135). -/

namespace Sys2Proof.Machine

/-- One bit of the check register, high bit first: polynomial x^16 + x^12 + x^5 + 1 (R166). -/
def crcBit (reg : BitVec 16) : BitVec 16 :=
  if reg.getLsbD 15 then (reg <<< 1) ^^^ 0x1021 else reg <<< 1

/-- One byte enters the check register (R166). -/
def crcByte (reg : BitVec 16) (b : Byte) : BitVec 16 :=
  let r := reg ^^^ ((b.zeroExtend 16) <<< 8)
  crcBit (crcBit (crcBit (crcBit (crcBit (crcBit (crcBit (crcBit r)))))))

/-- The check over a list of bytes, from 0xFFFF (R166). -/
def crc16 (bytes : List Byte) : BitVec 16 := bytes.foldl crcByte 0xFFFF

/-- LEN as it travels. -/
def lenByte (payload : List Byte) : Byte := BitVec.ofNat 8 (payload.length / 2)

/-- The bytes the check runs over: LEN, KIND, TAG, payload (R166). -/
def checkedBytes (f : Frame) : List Byte := lenByte f.payload :: f.kind :: f.tag :: f.payload

/-- A frame on the wire (R164). -/
def frameBytes (f : Frame) : List Byte :=
  let body := checkedBytes f
  let crc := crc16 body
  syncByte :: body ++ [crc.extractLsb' 8 8, crc.extractLsb' 0 8]

/-- What a character brings about: the receiver after it, whether a framing and whether a check discard happened, and the
frame it completed with a good check. -/
structure Received where
  receiver : Receiver
  framing : Bool
  check : Bool
  frame : Option Frame
deriving DecidableEq, Repr

/-- Hunting: every character but SYNC is discarded (R165). -/
def hunt (now : Nat) (b : Byte) (framing : Bool) : Received :=
  ⟨if b = syncByte then .readingLen now else .hunting, framing, false, none⟩

/-- A complete frame: KIND, TAG, payload and check, after LEN (R165, R166). -/
def completeFrame (len : Nat) (got : List Byte) : Received :=
  let body := got.take (2 + 2 * len)
  let sent := byteAt got (2 + 2 * len) ++ byteAt got (3 + 2 * len)
  if crc16 (BitVec.ofNat 8 len :: body) = sent then
    ⟨.hunting, false, false, some ⟨byteAt got 0, byteAt got 1, body.drop 2⟩⟩
  else ⟨.hunting, false, true, none⟩

/-- One character at elapsed count `now` (R165). A character after the gap finds the partial frame discarded and is judged
afresh in the hunt. -/
def receive (now : Nat) (b : Byte) : Receiver → Received
  | .hunting => hunt now b false
  | .readingLen last =>
    if gapLimit < now - last then hunt now b true
    else if requestLenMax < b.toNat then ⟨.hunting, true, false, none⟩
    else ⟨.assembling b.toNat [] now, false, false, none⟩
  | .assembling len got last =>
    if gapLimit < now - last then hunt now b true
    else
      let got' := got ++ [b]
      if got'.length = 4 + 2 * len then completeFrame len got'
      else ⟨.assembling len got' now, false, false, none⟩

/-- The elapsed count of the last character of a partial frame (R165). -/
def Receiver.last? : Receiver → Option Nat
  | .hunting => none
  | .readingLen last => some last
  | .assembling _ _ last => some last

/-- The gap has run out on a partial frame (R165). -/
def Receiver.gapOver (r : Receiver) (now : Nat) : Bool :=
  match r.last? with
  | none => false
  | some last => gapLimit < now - last

end Sys2Proof.Machine
end

