-- ==== Sys2Proof/Machine/Layout.lean ====
section
/-! DEFINITION. Layout: reply payloads in bytes (R164, R174 to R178). Fields lie in the order their chapter names them;
where R175 gives only general words, the reading taken is in log 17 and 18. -/

namespace Sys2Proof.Machine

/-! ## Fields (R175) -/

def nat1 (n : Nat) : List Byte := [BitVec.ofNat 8 n]

def nat2 (n : Nat) : List Byte := bytes2 (BitVec.ofNat 16 n)

def nat4 (n : Nat) : List Byte := bytes4 (BitVec.ofNat 32 n)

def nat6 (n : Nat) : List Byte := bytes6 (BitVec.ofNat 48 n)

def int2 (x : Int) : List Byte := bytes2 (BitVec.ofInt 16 x)

def int4 (x : Int) : List Byte := bytes4 (BitVec.ofInt 32 x)

def flag1 (b : Bool) : List Byte := [if b then 1 else 0]

def int4s (v : PerAxis Int) : List Byte := int4 v.az ++ int4 v.el ++ int4 v.rot

/-- Bits from the lowest up. -/
def bitsToNat : List Bool → Nat
  | [] => 0
  | b :: rest => (if b then 1 else 0) + 2 * bitsToNat rest

def bits1 (bs : List Bool) : List Byte := nat1 (bitsToNat bs)

/-- A record or payload padded to a whole number of words. -/
def padded (bs : List Byte) : List Byte := if bs.length % 2 = 1 then bs ++ [0] else bs

/-! ## Values that name one of a list, numbered as their chapter first lists them -/

def codeNumber : Code → Nat
  | .ok => 0
  | .noRight => 1
  | .badLength => 2
  | .badKind => 3
  | .badValue => 4
  | .nodeOrder => 5
  | .listFull => 6
  | .poolFull => 7
  | .recordFull => 8
  | .idInUse => 9
  | .noSuchTarget => 10
  | .targetActive => 11
  | .wrongState => 12
  | .notTracking => 13
  | .guideOff => 14
  | .stackFull => 15
  | .stackEmpty => 16
  | .offsetRange => 17
  | .sourceActive => 18
  | .notConfigured => 19
  | .timeUnset => 20
  | .imageBad => 21

def wrapNumber : WrapPreference → Nat
  | .nearest => 0
  | .low => 1
  | .high => 2

def statusNumber : RecordStatus → Nat
  | .waiting => 0
  | .active => 1

def outcomeNumber : OutcomeKind → Nat
  | .done => 0
  | .released => 1
  | .runOut => 2
  | .limit => 3
  | .preempted => 4
  | .aborted => 5
  | .stowed => 6
  | .cut => 7
  | .settleTimeout => 8
  | .expired => 9
  | .wrapInfeasible => 10

def listStateNumber : ListState → Nat
  | .stop => 0
  | .run => 1
  | .hold => 2
  | .stow => 3

def phaseNumber : Phase → Nat
  | .none => 0
  | .approach => 1
  | .settle => 2
  | .track => 3

def clockNumber : ClockStatus → Nat
  | .unset => 0
  | .free => 1
  | .locked => 2

def profileNumber : Profile → Nat
  | .calm => 0
  | .gust => 1

def sourceNumber : SourceKind → Nat
  | .track => 0
  | .freeze => 1
  | .stow => 2

def axisStateNumber : AxisState → Nat
  | .off => 0
  | .releasing => 1
  | .on => 2
  | .stopping _ => 3
  | .cut => 4

def driveStatusNumber : DriveStatus → Nat
  | .ok => 0
  | .warn => 1
  | .fault => 2

def causeNumber : CutSource → Nat
  | .interlock => 0
  | .azLimit => 1
  | .elLimit => 2
  | .rotLimit => 3
  | .driveLoss => 4
  | .driveFault => 5
  | .following => 6
  | .otherCut => 7
  | .estop => 8

def shutterNumber : ShutterLevel → Nat
  | .low => 0
  | .high => 1
  | .unknown => 2

def loadNumber : LoadName → Nat
  | .loading => 0
  | .valid => 1
  | .configFault => 2

/-- 0 empty, 1 new track, 2 freeze, 3 stow reference (R177). -/
def slotNumber : Option HandOver → Nat
  | none => 0
  | some h =>
    match h.content with
    | .newTrack _ _ => 1
    | .freeze => 2
    | .stow _ => 3

/-! ## Records -/

def optionBits (o : Options) : List Bool := [o.guide, o.domeWait, o.preempt]

/-- A record of READ_LIST (R22). -/
def listRecordBytes (position : Nat) (r : TargetRecord) : List Byte :=
  padded <|
    nat1 position ++ nat2 r.id ++ nat6 r.start ++ nat6 r.expire ++ nat4 r.dwell ++ nat1 (wrapNumber r.wrap) ++
    bits1 (optionBits r.options) ++ nat1 (statusNumber r.status) ++ nat4 r.serial ++ nat1 r.nodes.length ++
    nat6 ((r.nodes.head?.map (·.time)).getD 0) ++ nat6 ((r.nodes.getLast?.map (·.time)).getD 0) ++ flag1 r.late ++
    nat6 (r.actualStart.getD 0) ++ nat6 (r.firstTrack.getD 0) ++ nat2 r.guideCount ++
    bits1 [r.actualStart.isSome, r.firstTrack.isSome]

/-- An entry of READ_OUTCOMES (R23, R25). DESIGN CHOICE (log 31): of a tracked time beyond its range the low 32 bits. -/
def outcomeBytes (o : OutcomeEntry) : List Byte :=
  padded <|
    nat4 o.serial ++ nat2 o.id ++ nat1 (outcomeNumber o.outcome) ++ nat6 (o.actualStart.getD 0) ++ nat6 o.endTime ++
    nat4 o.tracked ++ nat2 o.guideCount ++ flag1 o.late ++ bits1 [o.actualStart.isSome]

/-- R53. DEDUCED (log 18): the hand-over serial takes 2 bytes, as in READ_POINTING. -/
def sequenceBytes (v : SequenceView) : List Byte :=
  nat1 (listStateNumber v.listState) ++ nat1 (phaseNumber v.phase) ++ nat2 v.activeId ++ nat2 v.serial ++
  nat4 (v.timeoutLeft.getD 0) ++ nat2 (v.holdLeft.getD 0) ++ nat4 (v.dwellLeft.getD 0) ++ nat4 v.tracked ++
  int4s (v.lastError.map (·.getD 0)) ++ flag1 v.domeReady ++ flag1 v.stow ++ nat6 (v.nextStart.getD 0) ++
  bits1 ([v.timeoutLeft.isSome, v.holdLeft.isSome, v.dwellLeft.isSome] ++ v.lastError.toList.map (·.isSome) ++
    [v.nextStart.isSome])

/-- R66. DEDUCED (log 18): the pulse watch is a byte, 1 while it runs. -/
def timeBytes (v : TimeView) : List Byte :=
  nat6 v.time ++ nat1 (clockNumber v.status) ++ flag1 v.pendingTime.isSome ++ nat6 (v.pendingTime.getD 0) ++
  flag1 v.holding ++ int4 (v.lastOffset.getD 0) ++ flag1 v.pulseWatch ++ nat1 v.periodMs ++
  nat6 (v.lastInstant.getD 0) ++ bits1 [v.pendingTime.isSome, v.lastOffset.isSome, v.lastInstant.isSome]

/-- An axis block of READ_POINTING, 26 bytes (R177). -/
def pointingAxisBytes (v : PointingAxis) : List Byte :=
  int4 v.demand ++ int4 v.reference ++ int4 v.e ++ int4 v.w ++ int4 v.demandStep ++ int4 (v.lastError.getD 0) ++
  bits1 [v.lastError.isSome, v.held] ++ [0]

/-- R177, from byte 2 on. -/
def pointingBytes (v : PointingView) : List Byte :=
  nat6 (v.lastInstant.getD 0) ++ pointingAxisBytes v.axes.az ++ pointingAxisBytes v.axes.el ++
  pointingAxisBytes v.axes.rot ++ nat1 (profileNumber v.profile) ++ flag1 v.forceGust ++
  nat1 (sourceNumber v.source) ++ nat1 (slotNumber v.slot) ++ nat2 v.adoptedSerial ++
  nat2 ((v.slot.map (·.serial)).getD 0) ++ nat2 ((v.track.map (·.1)).getD 0) ++ nat6 ((v.track.map (·.2)).getD 0) ++
  nat1 (listStateNumber v.listState) ++ nat1 (phaseNumber v.phase) ++ nat2 v.activeId ++ nat1 v.depth ++
  bits1 [v.lastInstant.isSome] ++ int4 v.gAz ++ int4 v.gEl

def guideFlagBits (f : GuideFlags) : List Bool := [f.secantCapped, f.stepClamped, f.saturated]

/-- R118. -/
def guideBytes (v : GuideView) : List Byte :=
  int4 v.filtered.1 ++ int4 v.filtered.2 ++ int4 v.transformed.1 ++ int4 v.transformed.2 ++ int4 v.applied.1 ++
  int4 v.applied.2 ++ bits1 (guideFlagBits v.flags) ++ int4 v.gAz ++ int4 v.gEl

/-- The fields of a stack entry: sky values, axis values, cap flag (R121). -/
def entryFields (x : OffsetEntry) : List Byte :=
  int4 x.dx ++ int4 x.dy ++ int4 x.drot ++ int4s x.axes ++ flag1 x.capped

/-- A stack entry as a repeated record (R126, R175). -/
def entryBytes (x : OffsetEntry) : List Byte := padded (entryFields x)

/-- R126. DEDUCED (log 18): each value of a ring pair takes 2 bytes, as in GUIDE_SAMPLE, and the last guide result has one
presence bit. -/
def correctionsBytes (v : CorrectionsView) : List Byte :=
  int4 v.theta ++ int4 v.sin ++ int4 v.cos ++ int4 v.k ++ flag1 v.capped ++ nat1 v.ring.length ++
  v.ring.flatMap (fun q => int2 q.1 ++ int2 q.2) ++ int4 v.gAz ++ int4 v.gEl ++
  nat6 ((v.lastGuide.map (·.time)).getD 0) ++ int4 ((v.lastGuide.map (·.az)).getD 0) ++
  int4 ((v.lastGuide.map (·.el)).getD 0) ++
  bits1 ((v.lastGuide.map fun g => guideFlagBits g.flags).getD []) ++ nat1 v.entries.length ++
  v.entries.flatMap entryBytes ++ int4s v.totals ++ bits1 [v.lastGuide.isSome]

def axisStatesBytes (v : PerAxis AxisState) : List Byte := v.toList.flatMap fun st => nat1 (axisStateNumber st)

/-- The stopping part of an axis state, absent outside STOPPING (R129). -/
def stoppingPart? : AxisState → Option StoppingPart
  | .stopping part => some part
  | .off | .releasing | .on | .cut => none

def stoppingPartNumber : StoppingPart → Nat
  | .braking => 0
  | .setting => 1

/-- One axis of READ_AXES (R148). DEDUCED (log 18): the reply goes axis by axis, each axis a repeated record with its own pad and
presence byte, in which the tracking error and its site time share one bit. -/
def axisViewBytes (v : AxisView) : List Byte :=
  padded <|
    nat1 (axisStateNumber v.state) ++ nat1 (((stoppingPart? v.state).map stoppingPartNumber).getD 0) ++
    flag1 v.enable ++ flag1 v.brake ++ nat2 (v.brakeLeft.getD 0) ++ int4 (v.lastActual.getD 0) ++
    nat1 ((v.lastStatus.map driveStatusNumber).getD 0) ++ int4 ((v.trackingError.map (·.error)).getD 0) ++
    nat6 ((v.trackingError.map (·.time)).getD 0) ++ nat1 v.silence ++ nat2 (v.graceLeft.getD 0) ++ [v.levels] ++
    [v.cutMask] ++ nat1 ((v.lastCause.map causeNumber).getD 0) ++ [v.nextTag] ++
    bits1 [(stoppingPart? v.state).isSome, v.brakeLeft.isSome, v.lastActual.isSome, v.lastStatus.isSome,
      v.trackingError.isSome, v.graceLeft.isSome, v.lastCause.isSome]

/-- A record of READ_CAPTURES, 54 bytes (R178). -/
def captureBytes (r : CaptureRecord) : List Byte :=
  nat4 r.serial ++ nat6 r.openTime ++ nat2 r.targetId ++ nat1 (phaseNumber r.phase) ++
  bits1 [r.earlierLost, r.targetEnded, r.closing.isSome] ++ nat6 r.instant ++ int4s r.demands ++ nat1 r.depth ++ [0] ++
  nat6 r.onTarget ++ nat2 r.guideCount ++ nat6 ((r.closing.map (·.1)).getD 0) ++ nat6 ((r.closing.map (·.2)).getD 0)

def refusalBytes (r : Option RefusalRecord) : List Byte :=
  match r with
  | none => List.replicate 11 0
  | some v =>
    [v.kind, v.tag] ++ nat1 (codeNumber v.code) ++ nat1 (listStateNumber v.listState) ++ nat1 (phaseNumber v.phase) ++
    nat6 v.time

/-- R173. The rights set: bit 0 OBSERVE, 1 PLAN, 2 GUIDE, 3 OFFSET. DEDUCED (log 18): the refusal record has one presence bit. -/
def statusBytes (v : StatusView) : List Byte :=
  nat1 (portNumber v.port) ++ bits1 [true, v.rights.plan, v.rights.guide, v.rights.offset] ++ nat1 v.rate ++
  refusalBytes v.refusal ++ nat2 v.refusalCount ++ nat2 v.framing ++ nat2 v.check ++ nat2 v.overrun ++
  nat1 (loadNumber v.load) ++ nat1 (clockNumber v.clock) ++ nat1 (listStateNumber v.listState) ++
  nat1 (phaseNumber v.phase) ++ nat2 v.activeId ++ axisStatesBytes v.axisStates ++ flag1 v.lines.shutter ++
  flag1 v.lines.domeReady ++ flag1 v.lines.gust ++ flag1 v.lines.stow ++ flag1 v.lines.interlock ++
  flag1 v.lines.estop ++ flag1 v.lines.azLimit ++ flag1 v.lines.elLimit ++ flag1 v.lines.rotLimit ++ flag1 v.latch ++
  bits1 [v.refusal.isSome]

def routingEntryBytes (x : RoutingEntry) : List Byte := nat1 x.mask.toNat ++ nat1 x.level

/-- The fault record: kind (0 none, 1 NO_MEMORY, 2 IMAGE), word index, presence of the index (R188, R192). -/
def faultBytes : FaultRecord → List Byte
  | .none => [0, 0, 0]
  | .noMemory => [1, 0, 0]
  | .image word => [2] ++ nat1 word ++ [1]

/-! ## Reply data (from byte 2 of the payload) -/

def dataBytes : ReplyData → List Byte
  | .none => []
  | .added serial free => nat4 serial ++ nat2 free
  | .appended count free => nat1 count ++ nat2 free
  | .deleted free => nat2 free
  | .list length free change records =>
    nat1 length ++ nat2 free ++ nat2 change ++ nat1 records.length ++
    records.flatMap fun q => listRecordBytes q.1 q.2
  | .outcomes oldest newest more entries =>
    nat1 entries.length ++ nat4 oldest ++ nat4 newest ++ flag1 more ++ entries.flatMap outcomeBytes
  | .sequencing listState phase activeId =>
    nat1 (listStateNumber listState) ++ nat1 (phaseNumber phase) ++ nat2 activeId
  | .sequence view => sequenceBytes view
  | .timeSet value status => nat6 value ++ nat1 (clockNumber status)
  | .time view => timeBytes view
  | .pointing view => pointingBytes view
  | .predict az el time source beyond =>
    int4 az ++ int4 el ++ nat6 time ++ nat1 (sourceNumber source) ++ flag1 beyond
  | .force latch gust => flag1 latch ++ flag1 gust
  | .guided view => guideBytes view
  | .ringReset depth => nat1 depth
  | .pushed depth axes capped totals => nat1 depth ++ int4s axes ++ flag1 capped ++ int4s totals
  | .popped entry depth totals => entryFields entry ++ nat1 depth ++ int4s totals
  | .cleared removed totals => nat1 removed ++ int4s totals
  | .corrections view => correctionsBytes view
  | .axisStates states => axisStatesBytes states
  | .cutMask before after => [before, after]
  | .axes views lines =>
    axisViewBytes views.az ++ axisViewBytes views.el ++ axisViewBytes views.rot ++ flag1 lines.estop ++
    flag1 lines.interlock ++ flag1 lines.azLimit ++ flag1 lines.elLimit ++ flag1 lines.rotLimit
  | .captures closedLeft openRecord shutter records =>
    nat1 records.length ++ nat1 closedLeft ++ flag1 openRecord.isSome ++ nat1 (shutterNumber shutter) ++
    nat4 ((openRecord.map (·.1)).getD 0) ++ [0, 0] ++ nat6 ((openRecord.map (·.2)).getD 0) ++
    records.flatMap captureBytes
  | .status view => statusBytes view
  | .notices sources threshold =>
    nat1 sources.length ++ (sources.flatMap fun q => nat1 (noticeNumber q.1) ++ nat1 q.2) ++ nat1 threshold
  | .routing before after => routingEntryBytes before ++ routingEntryBytes after
  | .threshold before after line => nat1 before ++ nat1 after ++ flag1 line
  | .site echo load next length fault =>
    (match echo with
      | none => []
      | some (start, words) => nat2 start ++ words.flatMap bytes4) ++
    nat1 (loadNumber load) ++ nat2 next ++ nat2 (length.getD 0) ++ faultBytes fault
  | .restarted listState states => nat1 (listStateNumber listState) ++ axisStatesBytes states

/-- The payload of a reply: code, flags with the OVERRUN marker in bit 0, data (R164, R167). -/
def replyPayload (overrun : Bool) (r : Reply) : List Byte :=
  padded (nat1 (codeNumber r.code) ++ flag1 overrun ++ dataBytes r.data)

/-- A reply as it leaves the port (R164). -/
def replyBytes (overrun : Bool) (r : Reply) : List Byte := frameBytes ⟨r.kind, r.tag, replyPayload overrun r⟩

end Sys2Proof.Machine
end

