-- ==== Sys2Proof/Machine/Link.lean ====
section
/-! DEFINITION. Link: the link interface (09): taking frames into buffers, judging a request against the table and the
port's rights, carrying it out once it is the oldest, forming its reply and sending replies in order. -/

namespace Sys2Proof.Machine

/-! ## Replies (R168) -/

/-- The first reply of the queue begins transmission, with the OVERRUN marker if it is pending (R167, R168). -/
def beginReply (q : LinkPort) : LinkPort :=
  match q.replies with
  | [] => { q with tx := [] }
  | r :: _ => { q with tx := replyBytes q.marker r, marker := false }

/-- A reply joins the queue; it begins transmission at once when none is before it (R168). -/
def queueReply (r : Reply) (q : LinkPort) : LinkPort :=
  match q.replies with
  | [] => beginReply { q with replies := [r] }
  | _ :: _ => { q with replies := q.replies ++ [r] }

/-- The reply in transmission has left: its request's buffer becomes free and the next reply begins (R168). -/
def replyGone (q : LinkPort) : LinkPort :=
  match q.replies with
  | [] => q
  | _ :: rest => beginReply { q with replies := rest, buffers := q.buffers.tail }

/-! ## Buffers (R167, R168) -/

/-- The oldest request not yet carried out. -/
def oldestWaiting : List Held → Option Frame
  | [] => none
  | h :: rest => if h.carried then oldestWaiting rest else some h.frame

/-- The oldest request not yet carried out becomes carried out. -/
def markCarried : List Held → List Held
  | [] => []
  | h :: rest => if h.carried then h :: markCarried rest else { h with carried := true } :: rest

/-- A frame that a full port discards (R167). -/
def overrunPort (q : LinkPort) : LinkPort := { q with overrun := holdUp16 q.overrun, marker := true }

/-- A complete frame with a good check is handed on: it enters a free buffer, or is discarded on overrun (R167). -/
def handOn (p : Port) (f : Frame) (s : State) : State :=
  if (s.link.get p).buffers.length < bufferCapacity then
    s.modPort p fun q => { q with buffers := q.buffers ++ [⟨f, false⟩] }
  else raise .linkOverrun (s.modPort p overrunPort)

/-! ## Rights (R169, R170) -/

/-- The kind needs PLAN, GUIDE or OFFSET (R174). -/
def needsRight : RequestKind → Bool
  | .addTarget | .appendNodes | .deleteTarget | .run | .hold | .stop | .abort | .release | .setTime | .forceGust
  | .clearForce | .enableAxes | .disableAxes | .setCutMask | .setRouting | .restart
  | .guideSample | .guideReset | .pushOffset | .popOffset | .clearOffsets => true
  | .readList | .readOutcomes | .readSequence | .readTime | .readPointing | .readPredict | .readCorrections | .readAxes
  | .readCaptures | .readStatus | .readNotices | .setThreshold | .siteWords => false

/-- The port may make requests of the kind (R169 order 4, R174). -/
def mayRequest (rights : Rights) (p : Port) : RequestKind → Bool
  | .addTarget | .appendNodes | .deleteTarget | .run | .hold | .stop | .abort | .release | .setTime | .forceGust
  | .clearForce | .enableAxes | .disableAxes | .setCutMask | .setRouting | .restart => rights.plan
  | .guideSample | .guideReset => rights.guide
  | .pushOffset | .popOffset | .clearOffsets => rights.offset
  | .readList | .readOutcomes | .readSequence | .readTime | .readPointing | .readPredict | .readCorrections | .readAxes
  | .readCaptures | .readStatus | .readNotices | .setThreshold => true
  | .siteWords => p == .p0

/-- The link interface's own judgement, in the order of R169; none hands the request to its owning block. -/
def judgeRequest (s : State) (p : Port) (f : Frame) : Option Code :=
  match requestKindOf f.kind with
  | none => some .badKind
  | some k =>
    if !k.lenOk f.len then some .badLength
    else if needsRight k && !s.isValid then some .notConfigured
    else if !mayRequest (s.link.get p).rights p k then some .noRight
    else none

/-! ## Carrying out (R168, R172) -/

/-- What an owning block answers: the state it leaves, the reply code and the reply data. -/
structure Answer where
  state : State
  code : Code
  data : ReplyData

def accept (s : State) (data : ReplyData) : Answer := ⟨s, .ok, data⟩

def refuse (s : State) (code : Code) : Answer := ⟨s, code, .none⟩

/-- The refusal record and count, when the code is not OK (R172): list state, phase and ST as the refusal found them. -/
def noteRefusal (found : State) (f : Frame) (code : Code) (q : LinkPort) : LinkPort :=
  if code = .ok then q
  else
    { q with
      refusal := some ⟨f.kind, f.tag, code, found.ctrl.listState, found.ctrl.phase, found.time.clock⟩
      refusalCount := bump16 q.refusalCount }

/-- The port's oldest waiting request is carried out: its reply joins the queue and a refusal is recorded. -/
def answerPort (found : State) (f : Frame) (code : Code) (data : ReplyData) (q : LinkPort) : LinkPort :=
  queueReply ⟨f.kind, f.tag, code, data⟩
    (noteRefusal found f code { q with buffers := markCarried q.buffers })

/-- A request is carried out whole: judged by the link interface, then by its owning block (R168, R169). A refusal by the
link interface itself carries no data, of SITE_WORDS too (R164; DEDUCED, log 38). -/
def carryOut (p : Port) (f : Frame) (body : State → Answer) (s : State) : State :=
  match judgeRequest s p f with
  | some code => s.modPort p (answerPort s f code .none)
  | none =>
    let a := body s
    a.state.modPort p (answerPort s f a.code a.data)

/-- While the port's oldest waiting request is one the link interface itself refuses, it is refused (R168, R169). -/
def sweepRefusals (p : Port) : Nat → State → State
  | 0, s => s
  | fuel + 1, s =>
    match oldestWaiting (s.link.get p).buffers with
    | none => s
    | some f =>
      match judgeRequest s p f with
      | none => s
      | some code => sweepRefusals p fuel (s.modPort p (answerPort s f code .none))

/-- Two frames spell one request: pad bytes are ignored (R175). -/
def sameRequest (p : Port) (g f : Frame) : Bool :=
  g.kind == f.kind && g.tag == f.tag && decodeRequest p g == decodeRequest p f

/-- The frame is the port's oldest request not yet carried out. -/
def isOldest (p : Port) (f : Frame) (s : State) : Bool :=
  match oldestWaiting (s.link.get p).buffers with
  | none => false
  | some g => sameRequest p g f

/-- The request of a command is at its port: it waits there already, or its frame comes in now. A LEN no receiver
assembles is a framing discard (R165). -/
def arrive (p : Port) (f : Frame) (s : State) : State :=
  if isOldest p f s then s
  else if requestLenMax < f.len then s.modPort p fun q => { q with framing := holdUp16 q.framing }
  else handOn p f s

/-- A request command (log 4): carried out if it is the port's oldest; otherwise its frame waits its turn or is lost to
overrun. -/
def serveFrame (p : Port) (f : Frame) (body : State → Answer) (s : State) : State :=
  let s1 := arrive p f s
  if isOldest p f s1 then sweepRefusals p bufferCapacity (carryOut p f body s1) else s1

/-- A request command on the part; nothing happens while RESET is asserted (R188). -/
def serve (c : Instr) (body : State → Answer) (s : State) : State :=
  if s.heldInReset then s
  else
    match c.request with
    | none => s
    | some (p, f) => serveFrame p f body s

/-! ## Characters and gaps (R165) -/

/-- The discards a character brings about are counted, each count holding at 65,535. -/
def countDiscards (r : Received) (q : LinkPort) : LinkPort :=
  { q with
    receiver := r.receiver
    framing := if r.framing then holdUp16 q.framing else q.framing
    check := if r.check then holdUp16 q.check else q.check }

/-- One character on a client port (R165, R167). -/
def takeCharacter (p : Port) (b : Byte) (s : State) : State :=
  let r := receive s.time.elapsed b (s.link.get p).receiver
  let s1 := s.modPort p (countDiscards r)
  match r.frame with
  | none => s1
  | some f => sweepRefusals p bufferCapacity (handOn p f s1)

/-- The gap ran out on a partial frame: a framing discard (R165). -/
def gapDiscard (now : Nat) (q : LinkPort) : LinkPort :=
  if q.receiver.gapOver now then { q with receiver := .hunting, framing := holdUp16 q.framing } else q

/-- The port changes to its image rate when nothing of it is under way (R163). -/
def rateReady (image : PortSettings) (q : LinkPort) : Bool :=
  q.rate != image.rate && q.receiver == .hunting && q.replies.isEmpty

/-- The request waiting at a port that can be handed to its owning block, as a command (R168). -/
def waitingRequest (s : State) (p : Port) : Option Instr :=
  match oldestWaiting (s.link.get p).buffers with
  | none => none
  | some f => decodeRequest p f

end Sys2Proof.Machine
end

