-- ==== Sys2Proof/Machine/Captures.lean ====
section
/-! DEFINITION. Captures: the commands of the capture unit (08): READ_CAPTURES and the SHUTTER line. -/

namespace Sys2Proof.Machine

/-- The CLOSED records, oldest first. -/
def closedRecords (fifo : List CaptureRecord) : List CaptureRecord := fifo.filter fun r => !r.isOpen

/-- R160: up to 4 of the oldest CLOSED records leave the FIFO. -/
def readCapturesBody (s : State) : Answer :=
  let closed := closedRecords s.capture.fifo
  let left := closed.drop 4
  let opened := openRecord s.capture.fifo
  accept (s.setCapture { s.capture with fifo := left ++ opened.toList })
    (.captures left.length (opened.map fun r => (r.serial, r.openTime)) s.capture.accepted (closed.take 4))

/-- READ_CAPTURES (R160). -/
def execReadCaptures (port : Port) (tag : Byte) (s : State) : Host.Outcome State Fault Refusal :=
  .next (serve (.readCaptures port tag) readCapturesBody s)

/-- A candidate that has held for the filter interval is accepted (R150). -/
def acceptReady (s : State) : State :=
  match s.capture.candidate with
  | none => s
  | some c => if candidateReady s c then acceptCandidate c s else s

/-- SHUTTER takes a level (R150): a candidate that has held for the interval is accepted before the level is judged; with
an interval of 0 the new level is accepted at once. -/
def changeShutter (level : Bool) (s : State) : State :=
  let s1 := judgeLevel level (acceptReady s)
  if s.image.filterUs = 0 then acceptReady s1 else s1

/-- A change of SHUTTER (R150). -/
def execShutterChange (level : Bool) (s : State) : Host.Outcome State Fault Refusal :=
  let s1 := s.setLines { s.lines with shutter := level }
  .next (if s.heldInReset then s1 else changeShutter level s1)

/-- The candidate has held for the filter interval (R150). -/
def execShutterCandidateAccepted (s : State) : Host.Outcome State Fault Refusal :=
  .next (if s.heldInReset then s else acceptReady s)

end Sys2Proof.Machine
end

