-- ==== Sys2Proof/Machine/Operands.lean ====
section
/-! DEFINITION. Operands: the operand fields of requests read as the values the rules speak of, and their range checks. -/

namespace Sys2Proof.Machine

/-! ## Records and nodes (R1, R3, R4) -/

/-- A track node from its fields: times unsigned, angles and rates signed (R175, R176). -/
def nodeOf (n : WireNode) : TrackNode where
  time := n.time.toNat
  pos := ⟨n.az.toInt, n.el.toInt, n.rot.toInt⟩
  rate := ⟨n.azRate.toInt, n.elRate.toInt, n.rotRate.toInt⟩

/-- Every field of a node is in its range (R3). -/
def nodeInRange (image : SiteImage) (n : TrackNode) : Bool :=
  within 0 n.pos.az (turn - 1) && within 0 n.pos.el quarterTurn && within image.rotLow n.pos.rot image.rotHigh &&
  allAxes.all fun a => (n.rate.get a).natAbs ≤ image.rateCeiling.get a

/-- The wrap preference a byte names (R176). -/
def wrapOf? (b : Byte) : Option WrapPreference :=
  match b.toNat with
  | 0 => some .nearest
  | 1 => some .low
  | 2 => some .high
  | _ => none

/-- The options a byte holds; no bit above bit 2 may be set (R176). -/
def optionsOf? (b : Byte) : Option Options :=
  if b.toNat < 8 then some ⟨b.getLsbD 0, b.getLsbD 1, b.getLsbD 2⟩ else none

/-- Node times strictly increasing, no two consecutive ones more than 300 s apart, from the time before them on (R4). -/
def inOrderFrom (previous : Nat) : List TrackNode → Bool
  | [] => true
  | n :: rest => previous < n.time && n.time ≤ previous + nodeSpan && inOrderFrom n.time rest

/-- The same among the nodes themselves (R12 order 4). -/
def inOrder : List TrackNode → Bool
  | [] => true
  | n :: rest => inOrderFrom n.time rest

/-- The first and last node times of a node list. -/
def firstTime (nodes : List TrackNode) : Nat := (nodes.head?.map (·.time)).getD 0

def finalTime (nodes : List TrackNode) : Nat := (nodes.getLast?.map (·.time)).getD 0

/-- The times of a header against each other, the present ST and the nodes carried (R12 order 3). -/
def timesInRange (now start expire : Nat) (nodes : List TrackNode) : Bool :=
  start < expire && now < expire && firstTime nodes ≤ start + nodeSpan && expire ≤ finalTime nodes + nodeSpan

/-- A header of R12 order 3 with every field in its range: wrap preference and options read. -/
def headerOf? (image : SiteImage) (now : Nat) (h : WireHeader) (nodes : List TrackNode) :
    Option (WrapPreference × Options) :=
  match wrapOf? h.wrap, optionsOf? h.options with
  | some w, some o =>
    if h.id != 0 && h.dwell.toNat ≤ dwellMax && nodes.all (nodeInRange image) &&
        timesInRange now h.start.toNat h.expire.toNat nodes then some (w, o)
    else none
  | _, _ => none

/-! ## Axes, sources, masks -/

/-- The axis a byte names (R175). -/
def axisOf? (b : Byte) : Option Axis :=
  match b.toNat with
  | 0 => some .az
  | 1 => some .el
  | 2 => some .rot
  | _ => none

/-- An axis mask from 1 to 7 (R131, R133). -/
def maskInRange (mask : Byte) : Bool := 1 ≤ mask.toNat && mask.toNat ≤ 7

/-- The mask names the axis. -/
def named (mask : Byte) (a : Axis) : Bool := mask.getLsbD (axisNumber a)

/-- The notice source a byte names (R180, R185). -/
def sourceOf? (b : Byte) : Option NoticeSource := allNoticeSources[b.toNat]?

/-- Sky offsets are from −3,600,000 to 3,600,000 (R121). -/
def skyInRange (x : Int) : Bool := within (-skyOffsetMax) x skyOffsetMax

end Sys2Proof.Machine
end

