-- ==== Sys2Proof/Machine/Generator.lean ====
section
/-! DEFINITION. Generator: the per-axis arithmetic of the approach generator (05): braking distance, the step rule, the
stop point of a freeze. Speeds are sizes of steps, in cas per demand period. -/

namespace Sys2Proof.Machine

/-- B(s) with acceleration a (R94): the sum of s − a, s − 2a, … down to the last that is not negative. -/
def brakingDistance (a s : Nat) : Nat :=
  let n := s / a
  n * s - a * n * (n + 1) / 2

/-- sign(w) × B(|w|): how far an axis moving at w still goes when it brakes (R77, R101). -/
def brakingTravel (a : Nat) (w : Int) : Int := signOf w * brakingDistance a w.natAbs

/-- The residual and the step of an axis (R90). -/
structure Motion where
  e : Int
  w : Int
deriving DecidableEq, Repr

/-- Braking (R96): the size of w falls by a, or w becomes 0; the new w is added to e. -/
def brake (a : Nat) (m : Motion) : Motion :=
  let w := signOf m.w * ((m.w.natAbs - a : Nat) : Int)
  ⟨m.e + w, w⟩

/-- A move at speed s toward zero (R97, R98). -/
def moveAt (s : Nat) (m : Motion) : Motion :=
  let w := -signOf m.e * (s : Int)
  ⟨m.e + w, w⟩

/-- The axis can still brake to rest on the reference after a move at speed s (R98). -/
def canStop (a d s : Nat) : Bool := s + brakingDistance a s ≤ d

/-- The speed chosen from the candidates up, cruise and down, or the fallback (R98). -/
def chooseSpeed (a v d u : Nat) : Nat :=
  let up := min (u + a) v
  if u < v && canStop a d up then up
  else if canStop a d u then u
  else u - a

/-- The closing case (R97, R98): snap, forced down, or a candidate. -/
def closeIn (a v : Nat) (m : Motion) : Motion :=
  let d := m.e.natAbs
  let u := m.w.natAbs
  if u ≤ a ∧ d ≤ a then ⟨0, -signOf m.e * (d : Int)⟩
  else if v < u then moveAt (u - a) m
  else moveAt (chooseSpeed a v d u) m

/-- The step rule (R95 to R98) under the limits a and v of the profile in force. -/
def stepRule (a v : Nat) (m : Motion) : Motion :=
  if m.e = 0 then
    if m.w.natAbs ≤ a then ⟨0, 0⟩ else brake a m
  else if m.w ≠ 0 ∧ signOf m.w = signOf m.e then brake a m
  else closeIn a v m

end Sys2Proof.Machine
end

