-- ==== Sys2Proof/Machine/ListStore.lean ====
section
/-! DEFINITION. ListStore: the night list, the node pool and the outcome log (01). -/

namespace Sys2Proof.Machine

/-- The nodes all records hold. -/
def nodesHeld (records : List TargetRecord) : Nat := (records.map (·.nodes.length)).sum

/-- The pool's free count (R8). -/
def freeCount (l : ListStore) : Nat := poolCapacity - nodesHeld l.records

def findRecord (id : Nat) (records : List TargetRecord) : Option TargetRecord :=
  records.find? fun r => r.id == id

/-- The ACTIVE record of an id (R74). -/
def activeRecord (id : Nat) (records : List TargetRecord) : Option TargetRecord :=
  records.find? fun r => r.id == id && r.status == .active

/-- The WAITING record of an id. -/
def waitingRecord (id : Nat) (records : List TargetRecord) : Option TargetRecord :=
  records.find? fun r => r.id == id && r.status == .waiting

/-- List order: by start time, then by insertion serial (R5). -/
def before (a b : TargetRecord) : Bool := a.start < b.start || (a.start == b.start && a.serial ≤ b.serial)

/-- A record takes its place in list order (R5). -/
def placeRecord (r : TargetRecord) : List TargetRecord → List TargetRecord
  | [] => [r]
  | x :: rest => if before x r then x :: placeRecord r rest else r :: x :: rest

/-- One record changed, by id. -/
def modRecord (id : Nat) (f : TargetRecord → TargetRecord) (records : List TargetRecord) : List TargetRecord :=
  records.map fun r => if r.id = id then f r else r

/-- A record added (R6, R7, R11). -/
def addRecord (r : TargetRecord) (l : ListStore) : ListStore :=
  { l with
    records := placeRecord r l.records
    nextSerial := nextSerial32 l.nextSerial
    changeCount := bump16 l.changeCount }

/-- A record removed; its nodes return to the pool (R7, R8). -/
def dropRecord (id : Nat) (l : ListStore) : ListStore :=
  { l with
    records := l.records.filter fun r => r.id != id
    changeCount := bump16 l.changeCount }

/-- Nodes appended to a record (R14). -/
def appendToRecord (id : Nat) (nodes : List TrackNode) (l : ListStore) : ListStore :=
  { l with
    records := modRecord id (fun r => { r with nodes := r.nodes ++ nodes }) l.records
    changeCount := bump16 l.changeCount }

/-- A record starts (R9). -/
def activate (id now : Nat) (late : Bool) (l : ListStore) : ListStore :=
  { l with
    records := modRecord id (fun r => { r with status := .active, actualStart := some now, late := late }) l.records
    changeCount := bump16 l.changeCount }

/-- A consumption report: the node at position 0 of the ACTIVE record of this id returns to the pool; discarded when no
such record is ACTIVE (R10). A record's last node is never consumed. -/
def consumeNode (id : Nat) (l : ListStore) : ListStore :=
  match activeRecord id l.records with
  | none => l
  | some r =>
    if r.nodes.length ≤ 1 then l
    else
      { l with
        records := modRecord id (fun q => { q with nodes := q.nodes.tail }) l.records
        changeCount := bump16 l.changeCount }

/-- An entry in order of serial (R24). -/
def placeEntry (o : OutcomeEntry) : List OutcomeEntry → List OutcomeEntry
  | [] => [o]
  | x :: rest => if x.serial ≤ o.serial then x :: placeEntry o rest else o :: x :: rest

/-- An outcome entry appended: a full log first loses its lowest serial (R23, R24). -/
def logOutcome (r : TargetRecord) (outcome : OutcomeKind) (endTime tracked : Nat) (l : ListStore) : ListStore :=
  let entry : OutcomeEntry := ⟨l.nextEntry, r.id, outcome, r.actualStart, endTime, tracked, r.guideCount, r.late⟩
  let room := if l.log.length < logCapacity then l.log else l.log.tail
  { l with log := placeEntry entry room, nextEntry := nextSerial32 l.nextEntry }

/-- LIST_EMPTY when a removal left the list empty (R21). -/
def noteEmpty (s : State) : State := if s.list.records.isEmpty then raise .listEmpty s else s

/-- The start watch of a record is removed when it leaves the list or starts (R30). -/
def dropWatch (id : Nat) (s : State) : State :=
  s.setCtrl { s.ctrl with watches := s.ctrl.watches.filter fun w => w.id != id }

/-- A record leaves with an outcome (R19, R21): the entry, the removal, LIST_EMPTY. -/
def removeWithOutcome (r : TargetRecord) (outcome : OutcomeKind) (endTime tracked : Nat) (s : State) : State :=
  noteEmpty (dropWatch r.id (s.setList (dropRecord r.id (logOutcome r outcome endTime tracked s.list))))

/-- A record leaves without an outcome (R17). -/
def removeWithoutOutcome (id : Nat) (s : State) : State :=
  noteEmpty (dropWatch id (s.setList (dropRecord id s.list)))

/-- The record's guide count rises by one, holding at 65,535 (R2, R118). -/
def countGuide (id : Nat) (s : State) : State :=
  s.setList
    { s.list with records := modRecord id (fun r => { r with guideCount := holdUp16 r.guideCount }) s.list.records }

/-- The record's first-TRACK time (R38). -/
def noteFirstTrack (id now : Nat) (s : State) : State :=
  s.setList { s.list with records := modRecord id (fun r => { r with firstTrack := some now }) s.list.records }

end Sys2Proof.Machine
end

