-- ==== Sys2Proof/Machine/Trajectory.lean ====
section
/-! DEFINITION. Trajectory: the reference of each axis, its terms and source, the track and its nodes, hand-over adoption,
held and stopping axes, limit supervision (04). -/

namespace Sys2Proof.Machine

/-! ## Terms (R68, R79) -/

/-- Base plus offset term plus guide term (R68). -/
def TrajectoryAxis.sourceReference (t : TrajectoryAxis) : Int := t.base + t.offset + t.guide

/-- The reference: the source reference of a driven axis, the demand of a held one (R68, R80). -/
def axisReference (s : State) (a : Axis) : Int :=
  if s.driven a then (s.traj.axes.get a).sourceReference else (s.traj.axes.get a).demand

/-- The base that makes the source reference equal to a value (R77, R78, R80). -/
def baseFor (value : Int) (t : TrajectoryAxis) : TrajectoryAxis := { t with base := value - t.offset - t.guide }

/-- A correction change on one axis (R79): the terms move, and the residual of a driven axis by the opposite. -/
def moveAxisTerms (driven : Bool) (dOffset dGuide : Int) (t : TrajectoryAxis) : TrajectoryAxis :=
  { t with
    offset := t.offset + dOffset
    guide := t.guide + dGuide
    e := if driven then t.e - (dOffset + dGuide) else t.e }

/-- Every axis of the trajectory unit changed, with its axis. -/
def State.modAllTraj (s : State) (f : Axis → TrajectoryAxis → TrajectoryAxis) : State :=
  s.setTraj { s.traj with axes := PerAxis.build fun a => f a (s.traj.axes.get a) }

/-- A correction change on all three axes (R79). -/
def moveTerms (dOffset dGuide : PerAxis Int) (s : State) : State :=
  s.modAllTraj fun a => moveAxisTerms (s.driven a) (dOffset.get a) (dGuide.get a)

/-! ## Stop points (R77, R82, R101) -/

/-- A driven axis is given its stop point: the base moves there, e becomes what is left to it, w is kept. -/
def stopAxis (amax : Nat) (t : TrajectoryAxis) : TrajectoryAxis :=
  let travel := brakingTravel amax t.w
  { baseFor (t.demand + travel) t with e := -travel }

/-- A freeze on one axis (R77): STOPPING keeps the stop point it has; a held axis stops at its demand. -/
def freezeAxis (amax : Nat) (st : AxisState) (t : TrajectoryAxis) : TrajectoryAxis :=
  match st with
  | .stopping _ => t
  | .on => stopAxis amax t
  | .off | .releasing | .cut => baseFor t.demand t

/-- Adopting a freeze (R77), with the profile selected at this instant. The arrival watch restarts (R102). -/
def adoptFreeze (s : State) : State :=
  let s1 := s.modAllTraj fun a => freezeAxis (s.limits.get a).amax (s.drive.get a).state
  s1.setTraj { s1.traj with source := .freeze, arrivalSet := true }

/-- Adopting a stow reference on one axis (R78): the source reference becomes the value; e of a driven axis is what is
left; STOPPING keeps its stop point. -/
def stowAxis (value : Int) (st : AxisState) (t : TrajectoryAxis) : TrajectoryAxis :=
  match st with
  | .stopping _ => t
  | .on => { baseFor value t with e := t.demand - value }
  | .off | .releasing | .cut => baseFor value t

/-- Adopting a stow reference (R78). -/
def adoptStow (values : PerAxis Int) (s : State) : State :=
  let s1 := s.modAllTraj fun a => stowAxis (values.get a) (s.drive.get a).state
  s1.setTraj { s1.traj with source := .stow, arrivalSet := true }

/-! ## The track (R71 to R74, R76) -/

/-- The track value of an axis (R71). -/
def trackValue (p rate : Int) (t tj : Nat) : Int := p + roundDiv (rate * ((t : Int) - (tj : Int))) rateScale

/-- The position of the node in force, with AZ on the mount frame (R71, R72). -/
def contextPosition (c : TrackContext) : PerAxis Int := { c.node.pos with az := c.unwrapped }

/-- The track values of the three axes at t (R71). -/
def trackAt (c : TrackContext) (t : Nat) : PerAxis Int :=
  PerAxis.build fun a => trackValue ((contextPosition c).get a) (c.node.rate.get a) t c.node.time

/-- The next node comes into force; its unwrapped az lies a reduced difference from the one before (R72). -/
def advance (c : TrackContext) (n : TrackNode) : TrackContext :=
  { c with node := n, unwrapped := c.unwrapped + reduceHalf (n.pos.az - c.node.pos.az) }

/-- A node switch reported to the list store, or a node passed at adoption (R10, R73, R76). -/
def reportNode (id : Nat) (s : State) : State := s.setList (consumeNode id s.list)

/-- The residual of a node switch on one axis (R73): old − new for an axis that follows the track. -/
def switchAxis (st : AxisState) (delta : Int) (t : TrajectoryAxis) : TrajectoryAxis :=
  match st with
  | .on => { t with e := t.e + delta }
  | .off | .releasing | .cut | .stopping _ => t

/-- One node switch at instant t (R73). -/
def switchNode (t : Nat) (c : TrackContext) (n : TrackNode) (s : State) : State :=
  let c' := advance c n
  let old := trackAt c t
  let new := trackAt c' t
  let s1 := s.modAllTraj fun a => switchAxis (s.drive.get a).state (old.get a - new.get a)
  reportNode c.id (s1.setTraj { s1.traj with source := .track c' })

/-- The switches of an instant, over the nodes after the one in force (R73): each whose time is at or before t. -/
def switchNodes (t : Nat) : List TrackNode → TrackContext → State → State
  | [], _, s => s
  | n :: rest, c, s =>
    if n.time ≤ t then switchNodes t rest (advance c n) (switchNode t c n s) else s

/-- The latest node time of a record (R69). -/
def lastTime (r : TargetRecord) : Nat := (r.nodes.getLast?.map (·.time)).getD 0

/-- The last node time of the context, read from the record (R69, R74). -/
def readLastTime (c : TrackContext) (s : State) : State :=
  match activeRecord c.id s.list.records with
  | none => s
  | some r =>
    match s.traj.source with
    | .track c' => s.setTraj { s.traj with source := .track { c' with lastNodeTime := lastTime r } }
    | .freeze | .stow => s

/-- Walking the node list at an instant under TRACK (R73, R74): with no ACTIVE record of the track's id nothing moves. -/
def walkNodes (t : Nat) (s : State) : State :=
  match s.traj.source with
  | .freeze | .stow => s
  | .track c =>
    match activeRecord c.id s.list.records with
    | none => s
    | some r => readLastTime c (switchNodes t r.nodes.tail c s)

/-- The context after the nodes at or before t, and how many were passed (R76). -/
def passNodes (t : Nat) : List TrackNode → TrackContext → TrackContext × Nat
  | [], c => (c, 0)
  | n :: rest, c =>
    if n.time ≤ t then
      let r := passNodes t rest (advance c n)
      (r.1, r.2 + 1)
    else (c, 0)

/-- So many consumption reports (R76). -/
def reportNodes (id : Nat) : Nat → State → State
  | 0, s => s
  | count + 1, s => reportNodes id count (reportNode id s)

/-- The base of each axis under TRACK; an axis in STOPPING keeps its stop point (R82; log 34). -/
def trackAxis (value : Int) (st : AxisState) (t : TrajectoryAxis) : TrajectoryAxis :=
  if st.isStopping then t else { t with base := value }

/-- e of an axis that follows a newly adopted track (R76). -/
def rejoinAxis (st : AxisState) (t : TrajectoryAxis) : TrajectoryAxis :=
  match st with
  | .on => { t with e := t.demand - t.sourceReference }
  | .off | .releasing | .cut | .stopping _ => t

/-- Adopting a new track at instant t (R76); a freeze in its place when its record is not ACTIVE. -/
def adoptTrack (t id : Nat) (turns : Int) (s : State) : State :=
  match activeRecord id s.list.records with
  | none => adoptFreeze s
  | some r =>
    match r.nodes with
    | [] => adoptFreeze s
    | n0 :: rest =>
      let passed := passNodes t rest ⟨id, n0, n0.pos.az + turns, lastTime r⟩
      let value := trackAt passed.1 t
      let s1 := reportNodes id passed.2 s
      let s2 := s1.modAllTraj fun a x =>
        rejoinAxis (s.drive.get a).state (trackAxis (value.get a) (s.drive.get a).state x)
      s2.setTraj { s2.traj with source := .track passed.1, arrivalSet := true }

/-- The base of each axis at the instant (R70, step 4). -/
def evaluateBase (t : Nat) (s : State) : State :=
  match s.traj.source with
  | .freeze | .stow => s
  | .track c => s.modAllTraj fun a => trackAxis ((trackAt c t).get a) (s.drive.get a).state

/-! ## Hand-over (R75) -/

/-- The slot's content is adopted and the slot emptied (R70 step 2, R75). -/
def adoptSlot (t : Nat) (s : State) : State :=
  match s.traj.slot with
  | none => s
  | some h =>
    let s1 := s.setTraj { s.traj with slot := none, adoptedSerial := h.serial }
    match h.content with
    | .newTrack id turns => adoptTrack t id turns s1
    | .freeze => adoptFreeze s1
    | .stow values => adoptStow values s1

/-! ## Held axes (R80, R81, R82, R104) -/

/-- The trajectory unit holds an axis on its entry to CUT: e and w are 0, the demand the last actual position. DEDUCED (log 48):
the base stands, also at the stop point of an axis cut out of STOPPING (R80, against R104). -/
def holdAxis (actual : Option Int) (t : TrajectoryAxis) : TrajectoryAxis :=
  { t with e := 0, w := 0, demand := actual.getD t.demand }

/-- On entry to RELEASING the source reference is reset too: at the last actual position under FREEZE on every axis and
under STOW on AZ and ROT, at the stow elevation under STOW on EL, whose stop point is discarded (R80, R81, R104; log 34). -/
def releaseAxis (source : Source) (stowElevation : Int) (a : Axis) (actual : Option Int) (t : TrajectoryAxis) :
    TrajectoryAxis :=
  let t1 := holdAxis actual t
  match source with
  | .freeze => baseFor t1.demand t1
  | .stow => baseFor (if a = .el then stowElevation else t1.demand) t1
  | .track _ => t1

/-- An OFF axis is sent no demand (R136), so the demand step after its release counts from the position it is released at
(worked sequence 7.8; log 14). -/
def leaveOff (st : AxisState) (t : TrajectoryAxis) : TrajectoryAxis :=
  match st with
  | .off => { t with stepFrom := t.demand }
  | .releasing | .on | .stopping _ | .cut => t

/-- An axis becoming ON is driven again (R81). -/
def driveAgain (t : TrajectoryAxis) : TrajectoryAxis := { t with e := t.demand - t.sourceReference, w := 0 }

/-- An axis entering OFF is held at its stop point (R82, R104). -/
def parkAxis (t : TrajectoryAxis) : TrajectoryAxis := { t with e := 0, w := 0 }

/-! ## Limits (R84, R86) -/

/-- The sector of an AZ reference (R86). -/
def sectorOf (az : Int) : Nat := (reduceTurn az / sectorSpan).toNat

/-- The EL lower bound at an AZ reference (R84, R86). -/
def elevationFloor (image : SiteImage) (az : Int) : Int :=
  max image.elLow (((image.horizon.getD (sectorOf az) 0 : Nat) : Int) * 1000)

/-- The source reference is outside the limits (R84). -/
def outsideLimits (image : SiteImage) (az el rot : Int) : Bool :=
  !within image.azLow az image.azHigh || !within (elevationFloor image az) el image.elCeil ||
  !within image.rotLow rot image.rotHigh

/-- The source references of the three axes. -/
def sourceReferences (s : State) : PerAxis Int := s.traj.axes.map (·.sourceReference)

/-! ## Prediction (R88) -/

/-- The context in force at a predicted time, from the nodes after the one in force. -/
def contextAt (t : Nat) (c : TrackContext) (s : State) : TrackContext :=
  match activeRecord c.id s.list.records with
  | none => c
  | some r => { (passNodes t (r.nodes.filter fun n => c.node.time < n.time) c).1 with lastNodeTime := lastTime r }

end Sys2Proof.Machine
end

