-- ==== Sys2Proof/Machine/CorrectionOps.lean ====
section
/-! DEFINITION. CorrectionOps: the sky-to-axis transform, the guide filter and clamps, the offset stack's totals and the
clearing at a start (06). -/

namespace Sys2Proof.Machine

/-- The field angle θ: ROT demand plus guider angle (R109), from the present demand (log 14). -/
def fieldAngle (s : State) : Int := (s.traj.axes.get .rot).demand + s.image.guiderAngle

/-- The divisor k with its cap flag, from the EL demand (R110). -/
def secantDivisor (el : Int) : Int × Bool :=
  let c := cosine el
  if c < secantCap then (secantCap, true) else (c, false)

/-- A transformed pair with its cap flag (R109, R110). -/
structure Transformed where
  az : Int
  el : Int
  capped : Bool
deriving DecidableEq, Repr

/-- The transform of a sky pair at angles θ and el (R109, R110). -/
def transformAt (theta el dx dy : Int) : Transformed :=
  let k := secantDivisor el
  ⟨roundDiv (dx * cosine theta - dy * sine theta) k.1,
   roundDiv (dx * sine theta + dy * cosine theta) oneQ30, k.2⟩

/-- The transform with the demands the trajectory unit holds (R109, R111). -/
def transform (s : State) (dx dy : Int) : Transformed :=
  transformAt (fieldAngle s) (s.traj.axes.get .el).demand dx dy

/-- The stack total of each axis (R121). -/
def stackTotals (stack : List OffsetEntry) : PerAxis Int :=
  PerAxis.build fun a => (stack.map fun x => x.axes.get a).sum

/-- The negative of a value per axis. -/
def negAxes (v : PerAxis Int) : PerAxis Int := v.map (fun x => -x)

/-- A ring of N zero pairs (R112). -/
def zeroRing (depth : Nat) : List (Int × Int) := List.replicate depth (0, 0)

/-- A sample enters the ring at position 0 and the pair at position N − 1 leaves (R114). -/
def pushRing (depth : Nat) (x : Int × Int) (ring : List (Int × Int)) : List (Int × Int) := (x :: ring).take depth

/-- The weighted sum of one component of the ring (R115). -/
def weightedSum (coefficients values : List Int) : Int := (List.zipWith (· * ·) coefficients values).sum

/-- The filtered pair (R115). -/
def filterRing (coefficients : List Int) (ring : List (Int × Int)) : Int × Int :=
  (roundDiv (weightedSum coefficients (ring.map (·.1))) 256,
   roundDiv (weightedSum coefficients (ring.map (·.2))) 256)

/-- x held within ± bound (R116, R117). -/
def clampTo (bound : Nat) (x : Int) : Int :=
  if (bound : Int) < x then bound else if x < -(bound : Int) then -(bound : Int) else x

/-- The clearing of the correction unit (R127): ring, G, stack and last result, with the terms moved by their negatives. -/
def clearCorrections (s : State) : State :=
  let dOffset := negAxes (stackTotals s.corr.stack)
  let dGuide : PerAxis Int := ⟨-s.corr.gAz, -s.corr.gEl, 0⟩
  moveTerms dOffset dGuide (s.setCorr ⟨zeroRing s.image.ringDepth, 0, 0, none, []⟩)

end Sys2Proof.Machine
end

