-- ==== Sys2Proof/Machine/Target.lean ====
section
/-! DEFINITION. Target: the target controller's work (02): hand-over, the wrap choice, the start check, starts, phases and
endings, and what it does with each report. -/

namespace Sys2Proof.Machine

/-- The controller changed. -/
def State.modCtrl (s : State) (f : Controller → Controller) : State := s.setCtrl (f s.ctrl)

/-! ## Hand-over (R29, R75) -/

/-- A hand-over: the next serial, and the slot's content replaced. -/
def handOver (content : SlotContent) (s : State) : State :=
  let serial := bump16 s.ctrl.serial
  (s.modCtrl fun c => { c with serial := serial }).setTraj { s.traj with slot := some ⟨content, serial⟩ }

/-! ## The wrap choice (R33) -/

/-- The unwrapped offsets of later nodes, from the azimuth and offset of the node before. -/
def offsetsFrom (az u : Int) : List TrackNode → List (TrackNode × Int)
  | [] => []
  | n :: rest =>
    let u' := u + reduceHalf (n.pos.az - az)
    (n, u') :: offsetsFrom n.pos.az u' rest

/-- Each node with its u_i; u₀ = 0 (R33). -/
def unwrappedOffsets : List TrackNode → List (TrackNode × Int)
  | [] => []
  | n :: rest => (n, 0) :: offsetsFrom n.pos.az 0 rest

/-- Node j: the last whose time is at or before t, or node 0 (R33). -/
def nodeAtTime (t : Nat) : TrackNode × Int → List (TrackNode × Int) → TrackNode × Int
  | j, [] => j
  | j, x :: rest => if x.1.time ≤ t then nodeAtTime t x rest else j

/-- az₀ and a_raw of a node list at t (R33). -/
def rawAzimuth (t : Nat) (nodes : List TrackNode) : Option (Int × Int) :=
  match unwrappedOffsets nodes with
  | [] => none
  | x :: rest =>
    let j := nodeAtTime t x rest
    some (x.1.pos.az, trackValue (x.1.pos.az + j.2) j.1.rate.az t j.1.time)

/-- A candidate is feasible: it and every node placed from it lie from AZ_LOW to AZ_HIGH (R33). -/
def feasible (image : SiteImage) (az0 aRaw : Int) (nodes : List TrackNode) (c : Int) : Bool :=
  within image.azLow c image.azHigh &&
  (unwrappedOffsets nodes).all fun x => within image.azLow (c + (az0 - aRaw) + x.2) image.azHigh

/-- The closest to a demand; of two at equal distance the earlier in the list, which is the lower (R33). -/
def closest (demand : Int) : Int → List Int → Int
  | c, [] => c
  | c, x :: rest => if absInt (x - demand) < absInt (c - demand) then closest demand x rest else closest demand c rest

/-- The preference selects among the feasible candidates, lowest first (R33). -/
def preferred (preference : WrapPreference) (demand : Int) : List Int → Option Int
  | [] => none
  | c :: rest =>
    match preference with
    | .nearest => some (closest demand c rest)
    | .low => some c
    | .high => some (rest.getLastD c)

/-- The wrap choice (R33): the whole number of turns c − a_raw, or none when no candidate is feasible. -/
def wrapChoice (image : SiteImage) (now : Nat) (demand : Int) (preference : WrapPreference) (nodes : List TrackNode) :
    Option Int :=
  match rawAzimuth now nodes with
  | none => none
  | some (az0, aRaw) =>
    let a := reduceTurn aRaw
    let candidates := [a - turn, a, a + turn].filter (feasible image az0 aRaw nodes)
    (preferred preference demand candidates).map fun c => c - aRaw

/-- The wrap choice for a record as things stand; the AZ demand is the present one (R33; log 14). -/
def State.wrapOf (s : State) (r : TargetRecord) : Option Int :=
  wrapChoice s.image s.time.clock (s.traj.axes.get .az).demand r.wrap r.nodes

/-! ## Endings (R43, R44) -/

/-- Tracked time so far in µs, the present TRACK interval included (R28, R38). -/
def trackedAt (now : Nat) (c : Controller) : Nat :=
  match c.phase, c.trackEntry with
  | .track, some entry => c.trackedUs + (now - entry)
  | _, _ => c.trackedUs

/-- µs in ms, rounded (R43, R53). DESIGN CHOICE (log 31): a tracked time has no bound. -/
def roundMs (us : Nat) : Nat := (roundDiv us 1000).toNat

/-- The active-target context at an ending (R28, R43). DESIGN CHOICE (log 46): dwell 0 and no options in phase NONE. -/
def clearContext (c : Controller) : Controller :=
  { c with
    phase := .none
    activeId := 0
    dwell := 0
    options := .none
    settleTimeout := none
    settleHold := none
    dwellTimer := none
    firstTrackReached := false
    trackedUs := 0
    trackEntry := none
    lastError := .all none }

/-- The list store is asked to remove the active record with an outcome; absent, nothing changes (R21). -/
def removeActive (outcome : OutcomeKind) (s : State) : State :=
  match activeRecord s.ctrl.activeId s.list.records with
  | none => s
  | some r => removeWithOutcome r outcome s.time.clock (roundMs (trackedAt s.time.clock s.ctrl)) s

/-- Steps 1 to 4 of an ending (R43). -/
def closeTarget (outcome : OutcomeKind) (s : State) : State :=
  let id := s.ctrl.activeId
  captureTargetEnded id (raise .targetEnded ((removeActive outcome s).modCtrl clearContext))

/-! ## Starts (R32, R34) -/

/-- The candidate (R32). -/
def candidate (s : State) : Option TargetRecord :=
  s.list.records.find? fun r =>
    r.status == .waiting && decide (r.start ≤ s.time.clock) && decide (s.time.clock < r.expire)

/-- The active-target context of a start (R34 step 5). -/
def startContext (r : TargetRecord) (timeout : Nat) (c : Controller) : Controller :=
  { c with
    phase := .approach
    activeId := r.id
    dwell := r.dwell
    options := r.options
    settleTimeout := some timeout
    settleHold := none
    dwellTimer := none
    firstTrackReached := false
    trackedUs := 0
    trackEntry := none
    lastError := .all none }

/-- The site time a settle timeout started now expires at (R34, R40). -/
def State.timeoutFromNow (s : State) : Nat := s.time.clock + s.image.settleTimeoutMs * 1000

/-- A start (R34). -/
def startTarget (r : TargetRecord) (turns : Int) (s : State) : State :=
  let late := decide (r.start + s.period < s.time.clock)
  let s1 := dropWatch r.id (s.setList (activate r.id s.time.clock late s.list))
  let s2 := handOver (.newTrack r.id turns) (clearCorrections s1)
  raise .targetStarted (s2.modCtrl (startContext r s2.timeoutFromNow))

/-- A candidate with no feasible turn (R33). -/
def removeInfeasible (r : TargetRecord) (s : State) : State :=
  raise .targetEnded (removeWithOutcome r .wrapInfeasible s.time.clock 0 s)

/-- Choosing again after each removal (R32, R33); each removes a record, so the records bound the choices. -/
def chooseStart : Nat → State → State
  | 0, s => s
  | fuel + 1, s =>
    match candidate s with
    | none => s
    | some r =>
      if s.targetActive && !r.options.preempt then s
      else
        match s.wrapOf r with
        | none => chooseStart fuel (removeInfeasible r s)
        | some turns => startTarget r turns (if s.targetActive then closeTarget .preempted s else s)

/-- The start check (R31). -/
def startCheck (s : State) : State :=
  if s.ctrl.listState = .run ∧ s.allOn then chooseStart (s.list.records.length + 1) s else s

/-- The freeze follows this ending when nothing else has (R44). -/
def freezeFollows (outcome : OutcomeKind) (s : State) : Bool :=
  (s.ctrl.listState == .run || s.ctrl.listState == .hold) && !s.targetActive &&
  outcome != .limit && outcome != .runOut && outcome != .preempted

/-- An ending of the active target that is not part of a start check (R43). -/
def endTarget (outcome : OutcomeKind) (s : State) : State :=
  let s1 := startCheck (closeTarget outcome s)
  if freezeFollows outcome s1 then handOver .freeze s1 else s1

/-- The ending, if a target is active. -/
def endIfActive (outcome : OutcomeKind) (s : State) : State := if s.targetActive then endTarget outcome s else s

/-! ## Settling (R35 to R40) -/

/-- Entry to TRACK (R38). -/
def enterTrack (s : State) : State :=
  let now := s.time.clock
  let c := s.ctrl
  let s1 := s.setCtrl { c with phase := .track, settleTimeout := none, settleHold := none, trackEntry := some now }
  if c.firstTrackReached then s1
  else
    raise .settled
      (noteFirstTrack c.activeId now
        (s1.modCtrl fun c =>
          { c with
            firstTrackReached := true
            dwellTimer := if c.dwell = 0 then none else some (now + c.dwell * 1000) }))

/-- The settle condition (R36). -/
def settleCondition (s : State) : Bool :=
  withinTolerance s.image.tolerance s.ctrl.lastError && (!s.ctrl.options.domeWait || s.lines.domeReady)

/-- The settle condition judged in SETTLE (R36); a hold time of 0 expires at once. -/
def judgeSettle (s : State) : State :=
  if settleCondition s then
    match s.ctrl.settleHold with
    | some _ => s
    | none =>
      if s.image.settleHoldMs = 0 then enterTrack s
      else s.modCtrl fun c => { c with settleHold := some (s.time.clock + s.image.settleHoldMs * 1000) }
  else s.modCtrl fun c => { c with settleHold := none }

/-- An arrival report (R35). -/
def arrivalReport (serial : Nat) (s : State) : State :=
  if serial = s.ctrl.serial ∧ s.ctrl.phase = .approach then judgeSettle (s.modCtrl fun c => { c with phase := .settle })
  else s

/-- A tracking-error report (R36). -/
def trackingReport (a : Axis) (error : Int) (s : State) : State :=
  if s.targetActive then
    let s1 := s.modCtrl fun c => { c with lastError := c.lastError.set a (some error) }
    if s.ctrl.phase = .settle then judgeSettle s1 else s1
  else s

/-- An offset-moved report (R40). -/
def offsetMoved (s : State) : State :=
  match s.ctrl.phase with
  | .none | .approach => s
  | .settle => s.modCtrl fun c => { c with settleHold := none, settleTimeout := some s.timeoutFromNow }
  | .track =>
    s.modCtrl fun c =>
      { c with
        phase := .settle
        trackedUs := trackedAt s.time.clock c
        trackEntry := none
        settleHold := none
        settleTimeout := some s.timeoutFromNow }

/-- A limit or run-out report (R42). -/
def endReport (outcome : OutcomeKind) (serial : Nat) (s : State) : State :=
  if serial = s.ctrl.serial then endIfActive outcome s else s

/-! ## List state (R50 to R52) -/

/-- The list state changed. -/
def State.setListState (s : State) (l : ListState) : State := s.modCtrl fun c => { c with listState := l }

/-- STOP entered with an ending and a freeze (R47, R52). -/
def stopList (outcome : OutcomeKind) (s : State) : State :=
  handOver .freeze (endIfActive outcome (s.setListState .stop))

/-- A cut-off report (R52). -/
def cutReport (s : State) : State :=
  match s.ctrl.listState with
  | .run | .hold => stopList .cut s
  | .stop | .stow => s

/-- The stow reference (R50), from the present demands (log 14). -/
def stowReference (s : State) : PerAxis Int :=
  ⟨(s.traj.axes.get .az).demand, s.image.stowElevation, (s.traj.axes.get .rot).demand⟩

/-- A rise of STOW (R50). -/
def stowRise (s : State) : State :=
  let s1 := endIfActive .stowed (s.setListState .stow)
  raise .stowChange (handOver (.stow (stowReference s1)) s1)

/-- A fall of STOW (R51). -/
def stowFall (s : State) : State :=
  if s.ctrl.listState = .stow then raise .stowChange (s.setListState .stop) else s

/-- The STOW level judged when the load state becomes VALID and when RESTART completes (R51). -/
def judgeStow (s : State) : State := if s.lines.stow then stowRise s else s

end Sys2Proof.Machine
end

