-- ==== Sys2Proof/Machine/Corrections.lean ====
section
/-! DEFINITION. Corrections: the commands of the correction unit (06): GUIDE_SAMPLE, GUIDE_RESET, PUSH_OFFSET, POP_OFFSET,
CLEAR_OFFSETS, READ_CORRECTIONS. -/

namespace Sys2Proof.Machine

/-! ## GUIDE_SAMPLE (R113 to R118) -/

/-- The figures of an accepted sample, and the ring it leaves (R114 to R117). -/
structure GuideFigures where
  ring : List (Int × Int)
  view : GuideView
deriving DecidableEq, Repr

/-- R114 to R117. -/
def guideFigures (s : State) (dx dy : Int) : GuideFigures :=
  let ring := pushRing s.image.ringDepth (dx, dy) s.corr.ring
  let f := filterRing s.image.coefficients ring
  let m := transform s f.1 f.2
  let cAz := clampTo s.image.stepLimit m.az
  let cEl := clampTo s.image.stepLimit m.el
  let gAz := clampTo s.image.guideRange (s.corr.gAz + cAz)
  let gEl := clampTo s.image.guideRange (s.corr.gEl + cEl)
  let applied := (gAz - s.corr.gAz, gEl - s.corr.gEl)
  let flags : GuideFlags := ⟨m.capped, cAz != m.az || cEl != m.el, applied.1 != cAz || applied.2 != cEl⟩
  ⟨ring, ⟨f, (m.az, m.el), applied, flags, gAz, gEl⟩⟩

def GuideFlags.any (f : GuideFlags) : Bool := f.secantCapped || f.stepClamped || f.saturated

/-- An accepted sample (R114 to R118). -/
def takeSample (x : GuideFigures) (s : State) : State :=
  let v := x.view
  let s1 := s.setCorr
    { s.corr with
      ring := x.ring
      gAz := v.gAz
      gEl := v.gEl
      lastGuide := some ⟨s.time.clock, v.applied.1, v.applied.2, v.flags⟩ }
  let s2 := moveTerms (.all 0) ⟨v.applied.1, v.applied.2, 0⟩ s1
  let s3 := captureGuide (countGuide s.ctrl.activeId s2)
  if v.flags.any then raise .guideLimited s3 else s3

/-- R113. -/
def guideSampleBody (dx dy : Half) (s : State) : Answer :=
  if s.ctrl.phase ≠ .track then refuse s .notTracking
  else if !s.ctrl.options.guide then refuse s .guideOff
  else
    let x := guideFigures s dx.toInt dy.toInt
    accept (takeSample x s) (.guided x.view)

/-- GUIDE_SAMPLE (R113). -/
def execGuideSample (port : Port) (tag : Byte) (dx dy : Half) (s : State) : Host.Outcome State Fault Refusal :=
  .next (serve (.guideSample port tag dx dy) (guideSampleBody dx dy) s)

/-! ## GUIDE_RESET (R120) -/

/-- R120. -/
def guideResetBody (s : State) : Answer :=
  accept (s.setCorr { s.corr with ring := zeroRing s.image.ringDepth }) (.ringReset s.image.ringDepth)

/-- GUIDE_RESET (R120). -/
def execGuideReset (port : Port) (tag : Byte) (s : State) : Host.Outcome State Fault Refusal :=
  .next (serve (.guideReset port tag) guideResetBody s)

/-! ## The offset stack (R121 to R125) -/

/-- The stack changes and the terms with it, by the change of each total; a changed total is reported (R79, R125). -/
def changeStack (stack : List OffsetEntry) (change : PerAxis Int) (s : State) : State :=
  let s1 := moveTerms change (.all 0) (s.setCorr { s.corr with stack := stack })
  if change = .all 0 then s1 else offsetMoved s1

/-- The entry a push forms (R122). -/
def newEntry (s : State) (dx dy drot : Int) : OffsetEntry :=
  let m := transform s dx dy
  ⟨dx, dy, drot, ⟨m.az, m.el, drot⟩, m.capped⟩

/-- Every total is within the offset range (R121, R122 order 5). -/
def totalsInRange (range : Nat) (totals : PerAxis Int) : Bool := allAxes.all fun a => (totals.get a).natAbs ≤ range

/-- R122. -/
def pushOffsetBody (dx dy drot : Word) (s : State) : Answer :=
  if !(skyInRange dx.toInt && skyInRange dy.toInt && skyInRange drot.toInt) then refuse s .badValue
  else if !s.targetActive then refuse s .notTracking
  else if stackCapacity ≤ s.corr.stack.length then refuse s .stackFull
  else
    let entry := newEntry s dx.toInt dy.toInt drot.toInt
    let stack := entry :: s.corr.stack
    if !totalsInRange s.image.offsetRange (stackTotals stack) then refuse s .offsetRange
    else
      accept (changeStack stack entry.axes s) (.pushed stack.length entry.axes entry.capped (stackTotals stack))

/-- PUSH_OFFSET (R122). -/
def execPushOffset (port : Port) (tag : Byte) (dx dy drot : Word) (s : State) : Host.Outcome State Fault Refusal :=
  .next (serve (.pushOffset port tag dx dy drot) (pushOffsetBody dx dy drot) s)

/-- R123. -/
def popOffsetBody (s : State) : Answer :=
  if !s.targetActive then refuse s .notTracking
  else
    match s.corr.stack with
    | [] => refuse s .stackEmpty
    | top :: rest => accept (changeStack rest (negAxes top.axes) s) (.popped top rest.length (stackTotals rest))

/-- POP_OFFSET (R123). -/
def execPopOffset (port : Port) (tag : Byte) (s : State) : Host.Outcome State Fault Refusal :=
  .next (serve (.popOffset port tag) popOffsetBody s)

/-- R124. -/
def clearOffsetsBody (s : State) : Answer :=
  if !s.targetActive then refuse s .notTracking
  else
    accept (changeStack [] (negAxes (stackTotals s.corr.stack)) s) (.cleared s.corr.stack.length (stackTotals []))

/-- CLEAR_OFFSETS (R124). -/
def execClearOffsets (port : Port) (tag : Byte) (s : State) : Host.Outcome State Fault Refusal :=
  .next (serve (.clearOffsets port tag) clearOffsetsBody s)

/-! ## READ_CORRECTIONS (R126) -/

/-- R126. -/
def correctionsView (s : State) : CorrectionsView :=
  let theta := reduceTurn (fieldAngle s)
  let k := secantDivisor (s.traj.axes.get .el).demand
  { theta := theta
    sin := sine theta
    cos := cosine theta
    k := k.1
    capped := k.2
    ring := s.corr.ring
    gAz := s.corr.gAz
    gEl := s.corr.gEl
    lastGuide := s.corr.lastGuide
    entries := s.corr.stack.reverse
    totals := stackTotals s.corr.stack }

/-- READ_CORRECTIONS (R126). -/
def execReadCorrections (port : Port) (tag : Byte) (s : State) : Host.Outcome State Fault Refusal :=
  .next (serve (.readCorrections port tag) (fun s => accept s (.corrections (correctionsView s))) s)

end Sys2Proof.Machine
end

