-- ==== Sys2Proof/Machine/Drive.lean ====
section
/-! DEFINITION. Drive: the drive controller's work (07): cut-off sources and cuts, enabling and disabling, frames and
replies, the silence check and the following-error grace. -/

namespace Sys2Proof.Machine

/-! ## Cut-off sources (R142) -/

/-- The source's place in a cut mask; ESTOP has none. -/
def maskPosition : CutSource → Option Nat
  | .interlock => some 0
  | .azLimit => some 1
  | .elLimit => some 2
  | .rotLimit => some 3
  | .driveLoss => some 4
  | .driveFault => some 5
  | .following => some 6
  | .otherCut => some 7
  | .estop => none

/-- The source acts on an axis with this mask (R143). -/
def selects (mask : BitVec 8) (src : CutSource) : Bool :=
  match maskPosition src with
  | none => true
  | some i => mask.getLsbD i

/-- The other two axes, in order. -/
def otherAxes : Axis → List Axis
  | .az => [.el, .rot]
  | .el => [.az, .rot]
  | .rot => [.az, .el]

/-- The levels of the eight mask positions as they act on an axis, OTHER_CUT as given (R142, R148). -/
def sourceLevels (s : State) (a : Axis) (otherCut : Bool) : List Bool :=
  let d := s.drive.get a
  [s.lines.interlock, s.lines.azLimit, s.lines.elLimit, s.lines.rotLimit, d.silence == silenceLimit,
   d.lastStatus == some .fault, d.following, otherCut]

/-- An axis of a list is in CUT. -/
def anyCut (s : State) (axes : List Axis) : Bool := axes.any fun a => (s.drive.get a).state == .cut

/-- A source selected in the mask is active (R131 order 4). -/
def selectedActive (mask : BitVec 8) (levels : List Bool) : Bool :=
  (List.zip (List.range 8) levels).any fun x => x.2 && mask.getLsbD x.1

/-! ## Cuts (R143 to R145) -/

/-- Entry to CUT, first step, on the axis's own state (R144). -/
def cutDrive (cause : CutSource) (d : DriveAxis) : DriveAxis :=
  { d with state := .cut, enable := false, brake := false, brakeTimer := none, grace := none, lastCause := some cause }

/-- Entry to CUT, steps 1 to 4 (R144). -/
def enterCut (cause : CutSource) (a : Axis) (s : State) : State :=
  let s1 := s.modDrive a (cutDrive cause)
  raise .cutOff (cutReport (s1.modTraj a (holdAxis (s.drive.get a).lastActual)))

/-- A rise of OTHER_CUT would cut the axis (R145). -/
def otherCutActs (s : State) (a : Axis) : Bool :=
  (s.drive.get a).state.canCut && selects (s.drive.get a).cutMask .otherCut

/-- Entry to CUT, step 5: the rise of OTHER_CUT for each other axis, in a chain (R145). -/
def chainCut : Nat → Axis → State → State
  | 0, _, s => s
  | fuel + 1, a, s =>
    (otherAxes a).foldl
      (fun t b => if otherCutActs t b then chainCut fuel b (enterCut .otherCut b t) else t) s

/-- Each axis enters CUT at most once, so no chain has more than three entries (R145). -/
def chainLength : Nat := 3

/-- A rise of a source of one axis (R143). -/
def cutOwn (cause : CutSource) (a : Axis) (s : State) : State :=
  if (s.drive.get a).state.canCut && selects (s.drive.get a).cutMask cause then
    chainCut chainLength a (enterCut cause a s)
  else s

/-- The axes a rise of a line puts in CUT (R143). -/
def cutByRise (src : CutSource) (s : State) : List Axis :=
  allAxes.filter fun a => (s.drive.get a).state.canCut && selects (s.drive.get a).cutMask src

/-- A rise of a line (R143): every axis it acts on enters CUT with it as cause, then OTHER_CUT (log 15). -/
def cutByLine (src : CutSource) (s : State) : State :=
  let hit := cutByRise src s
  hit.foldl (fun t a => chainCut chainLength a t) (hit.foldl (fun t a => enterCut src a t) s)

/-- The source a line is. -/
def lineSource : CutLine → CutSource
  | .interlock => .interlock
  | .azLimit => .azLimit
  | .elLimit => .elLimit
  | .rotLimit => .rotLimit
  | .estop => .estop

def Lines.level (l : Lines) : CutLine → Bool
  | .interlock => l.interlock
  | .azLimit => l.azLimit
  | .elLimit => l.elLimit
  | .rotLimit => l.rotLimit
  | .estop => l.estop

def Lines.setLevel (l : Lines) (line : CutLine) (level : Bool) : Lines :=
  match line with
  | .interlock => { l with interlock := level }
  | .azLimit => { l with azLimit := level }
  | .elLimit => { l with elLimit := level }
  | .rotLimit => { l with rotLimit := level }
  | .estop => { l with estop := level }

/-! ## Enabling and disabling (R131 to R134) -/

/-- The site time a brake interval begun now ends at (R132, R134). -/
def State.brakeFromNow (s : State) (a : Axis) : Nat := s.time.clock + s.image.brakeMs.get a * 1000

/-- Entry to ON (R132, R81), with the report that may bring the start check (R31). DEDUCED (log 51): a grace timer runs on. -/
def enterOn (a : Axis) (s : State) : State :=
  let s1 := (s.modDrive a fun d => { d with state := .on, brakeTimer := none }).modTraj a driveAgain
  if s1.allOn then startCheck s1 else s1

/-- Entry to RELEASING (R132); an interval of 0 ends at once. -/
def enterReleasing (a : Axis) (s : State) : State :=
  let expiry := s.brakeFromNow a
  let s1 := s.modDrive a fun d =>
    { d with state := .releasing, enable := true, brake := true, grace := none, brakeTimer := some expiry }
  let s2 := s1.modTraj a fun x =>
    leaveOff (s.drive.get a).state (releaseAxis s.traj.source s.image.stowElevation a (s.drive.get a).lastActual x)
  if s.image.brakeMs.get a = 0 then enterOn a s2 else s2

/-- Entry to STOPPING (R133, R82). DEDUCED (log 51): a grace timer runs on. -/
def enterStopping (a : Axis) (s : State) : State :=
  (s.modDrive a fun d => { d with state := .stopping .braking, brakeTimer := none }).modTraj a
    (stopAxis (s.limits.get a).amax)

/-- Entry to OFF (R134, R141). -/
def enterOff (a : Axis) (s : State) : State :=
  (s.modDrive a fun d =>
    { d with state := .off, enable := false, brake := false, brakeTimer := none, grace := none, following := false }).modTraj
    a parkAxis

/-- An at-rest report (R134); an interval of 0 ends at once (log 23). -/
def atRest (a : Axis) (s : State) : State :=
  match (s.drive.get a).state with
  | .stopping .braking =>
    let expiry := s.brakeFromNow a
    let s1 := s.modDrive a fun d => { d with state := .stopping .setting, brake := false, brakeTimer := some expiry }
    if s.image.brakeMs.get a = 0 then enterOff a s1 else s1
  | .stopping .setting | .off | .releasing | .on | .cut => s

/-! ## Following error (R141) -/

/-- FOLLOWING becomes active, a rise (R141). -/
def followingRise (a : Axis) (s : State) : State :=
  cutOwn .following a (s.modDrive a fun d => { d with following := true, grace := none })

/-- The following-error judgement of a tracking error (R141). -/
def judgeFollowing (a : Axis) (error : Int) (s : State) : State :=
  let d := s.drive.get a
  if s.image.followLimit.get a < error.natAbs then
    if d.following || d.grace.isSome then s
    else if s.image.followGraceMs = 0 then followingRise a s
    else s.modDrive a fun d => { d with grace := some (s.time.clock + s.image.followGraceMs * 1000) }
  else s.modDrive a fun d => { d with following := false, grace := none }

/-! ## Replies (R135, R137, R138, R140) -/

/-- A reply that passes the checks of R135. -/
structure DriveReply where
  tag : BitVec 8
  actual : Int
  status : DriveStatus
deriving DecidableEq, Repr

/-- The drive status a byte names (R135). -/
def driveStatusOf? (b : Byte) : Option DriveStatus :=
  match b.toNat with
  | 0 => some .ok
  | 1 => some .warn
  | 2 => some .fault
  | _ => none

/-- The KIND of a reply (R135). -/
def replyKind : Byte := 0x81

/-- A frame of a drive read as a reply (R135). -/
def driveReplyOf? (f : Frame) : Option DriveReply :=
  if f.kind = replyKind ∧ f.len = 3 then
    (driveStatusOf? (byteAt f.payload 4)).map fun st => ⟨f.tag, (wordAt f.payload 0).toInt, st⟩
  else none

/-- The tracking error of a counted reply to a demand frame: formed, judged, reported (R138). DEDUCED (log 49): the target
controller takes the report before the capture unit. -/
def formError (a : Axis) (f : OpenFrame) (actual : Int) (s : State) : State :=
  let err : TrackingError := ⟨f.demand - actual, f.time⟩
  let s1 := s.modDrive a fun d => { d with trackingError := some err }
  captureReport a err (trackingReport a err.error (judgeFollowing a err.error s1))

/-- What a counted reply sets on its axis (R137). -/
def countedDrive (r : DriveReply) (d : DriveAxis) : DriveAxis :=
  { d with silence := 0, lastActual := some r.actual, lastStatus := some r.status, openFrame := none }

/-- A counted reply (R137): a FAULT after anything else is a rise of DRIVE_FAULT (R140). DEDUCED (log 44): the cut of that rise
comes before the tracking error is formed, judged and reported, in the order of R137's list. -/
def countReply (a : Axis) (f : OpenFrame) (r : DriveReply) (s : State) : State :=
  let rise := r.status = .fault ∧ (s.drive.get a).lastStatus ≠ some .fault
  let s1 := s.modDrive a (countedDrive r)
  let s2 := if rise then cutOwn .driveFault a s1 else s1
  if f.isDemand then formError a f r.actual s2 else s2

/-- A reply is counted when its tag is that of the open frame (R137). -/
def judgeReply (a : Axis) (r : DriveReply) (s : State) : State :=
  match (s.drive.get a).openFrame with
  | none => s
  | some f => if f.tag = r.tag then countReply a f r s else s

/-- One character on a drive line (R135, R165). -/
def takeDriveCharacter (a : Axis) (b : Byte) (s : State) : State :=
  let r := receive s.time.elapsed b (s.drive.get a).receiver
  let s1 := s.modDrive a fun d => { d with receiver := r.receiver }
  match r.frame.bind driveReplyOf? with
  | none => s1
  | some reply => judgeReply a reply s1

/-! ## The silence check (R139) -/

/-- One axis: a frame still open is counted and closed; 1 raises DRIVE_SILENT, 3 is a rise of DRIVE_LOSS. -/
def silenceAxis (s : State) (a : Axis) : State :=
  let d := s.drive.get a
  match d.openFrame with
  | none => s
  | some _ =>
    let count := min silenceLimit (d.silence + 1)
    let s1 := s.modDrive a fun d => { d with silence := count, openFrame := none }
    let s2 := if d.silence = 0 then raise .driveSilent s1 else s1
    if count = silenceLimit ∧ d.silence < silenceLimit then cutOwn .driveLoss a s2 else s2

/-- The silence check of a demand instant (R139): AZ, EL, ROT in turn, each with the whole chain of its cut (DESIGN CHOICE,
log 42). -/
def silenceCheck (s : State) : State := allAxes.foldl silenceAxis s

/-! ## Frames to the drives (R135, R136) -/

/-- A demand frame (R135). -/
def demandFrame (tag : BitVec 8) (demand step : Int) (enable : Bool) : Frame :=
  ⟨0x01, tag, bytes4 (BitVec.ofInt 32 demand) ++ bytes4 (BitVec.ofInt 32 step) ++ [if enable then 1 else 0, 0]⟩

/-- A position read (R135). -/
def positionRead (tag : BitVec 8) (enable : Bool) : Frame := ⟨0x02, tag, [if enable then 1 else 0, 0]⟩

/-- The frame of an axis for the instant t (R136). -/
def sendDrive (t : Nat) (x : TrajectoryAxis) (d : DriveAxis) : DriveAxis :=
  if d.state = .off then
    { d with
      nextTag := d.nextTag + 1
      openFrame := some ⟨d.nextTag, false, 0, t⟩
      sent := frameBytes (positionRead d.nextTag d.enable) }
  else
    { d with
      nextTag := d.nextTag + 1
      openFrame := some ⟨d.nextTag, true, x.demand, t⟩
      sent := frameBytes (demandFrame d.nextTag x.demand x.demandStep d.enable) }

/-- A frame to each axis, once the load state is VALID (R136). -/
def sendFrames (t : Nat) (s : State) : State :=
  if s.isValid then s.setDrive (PerAxis.build fun a => sendDrive t (s.traj.axes.get a) (s.drive.get a)) else s

end Sys2Proof.Machine
end

