-- ==== Sys2Proof/Machine/Drives.lean ====
section
/-! DEFINITION. Drives: the commands of the drive controller (07): ENABLE_AXES, DISABLE_AXES, SET_CUT_MASK, READ_AXES, drive
replies, the brake and grace expiries, and the cut-off lines. -/

namespace Sys2Proof.Machine

/-- The three axis states. -/
def axisStates (s : State) : PerAxis AxisState := s.drive.map (·.state)

/-! ## ENABLE_AXES (R131) -/

/-- The axis is OFF or CUT. -/
def AxisState.isDown : AxisState → Bool
  | .off | .cut => true
  | .releasing | .on | .stopping _ => false

/-- The axes a mask names, in order. -/
def namedAxes (mask : Byte) : List Axis := allAxes.filter (named mask)

/-- The axes ENABLE_AXES releases. -/
def axesToRelease (mask : Byte) (s : State) : List Axis :=
  (namedAxes mask).filter fun a => (s.drive.get a).state.isDown

/-- Order 3 of R131: a named axis STOPPING, or to be released with its last actual absent. -/
def enableBlocked (mask : Byte) (s : State) : Bool :=
  ((namedAxes mask).any fun a => (s.drive.get a).state.isStopping) ||
  (axesToRelease mask s).any fun a => (s.drive.get a).lastActual.isNone

/-- Order 4 of R131. OTHER_CUT counts as active when an axis not named is in CUT. -/
def enableSourceActive (mask : Byte) (s : State) : Bool :=
  let unnamedCut := anyCut s (allAxes.filter fun a => !named mask a)
  (axesToRelease mask s).any fun a =>
    s.lines.estop || selectedActive (s.drive.get a).cutMask (sourceLevels s a unnamedCut)

/-- R131. -/
def enableAxesBody (mask : Byte) (s : State) : Answer :=
  if !maskInRange mask then refuse s .badValue
  else if enableBlocked mask s then refuse s .wrongState
  else if enableSourceActive mask s then refuse s .sourceActive
  else
    let s1 := (axesToRelease mask s).foldl (fun t a => enterReleasing a t) s
    accept s1 (.axisStates (axisStates s1))

/-- ENABLE_AXES (R131). -/
def execEnableAxes (port : Port) (tag : Byte) (mask : Byte) (s : State) : Host.Outcome State Fault Refusal :=
  .next (serve (.enableAxes port tag mask) (enableAxesBody mask) s)

/-! ## DISABLE_AXES (R133) -/

/-- The axis is ON or RELEASING. -/
def AxisState.canStop : AxisState → Bool
  | .on | .releasing => true
  | .off | .cut | .stopping _ => false

/-- The axes DISABLE_AXES stops. -/
def axesToStop (mask : Byte) (s : State) : List Axis := (namedAxes mask).filter fun a => (s.drive.get a).state.canStop

/-- R133. -/
def disableAxesBody (mask : Byte) (s : State) : Answer :=
  if !maskInRange mask then refuse s .badValue
  else if s.targetActive then refuse s .targetActive
  else
    let s1 := (axesToStop mask s).foldl (fun t a => enterStopping a t) s
    accept s1 (.axisStates (axisStates s1))

/-- DISABLE_AXES (R133). -/
def execDisableAxes (port : Port) (tag : Byte) (mask : Byte) (s : State) : Host.Outcome State Fault Refusal :=
  .next (serve (.disableAxes port tag mask) (disableAxesBody mask) s)

/-! ## SET_CUT_MASK (R146) -/

/-- R146. -/
def setCutMaskBody (axis mask : Byte) (s : State) : Answer :=
  match axisOf? axis with
  | none => refuse s .badValue
  | some a =>
    accept (s.modDrive a fun d => { d with cutMask := mask }) (.cutMask (s.drive.get a).cutMask mask)

/-- SET_CUT_MASK (R146). -/
def execSetCutMask (port : Port) (tag : Byte) (axis mask : Byte) (s : State) : Host.Outcome State Fault Refusal :=
  .next (serve (.setCutMask port tag axis mask) (setCutMaskBody axis mask) s)

/-! ## READ_AXES (R148) -/

/-- Eight levels as a byte, the first in bit 0. -/
def levelsByte (levels : List Bool) : BitVec 8 := BitVec.ofNat 8 (bitsToNat levels)

/-- One axis of READ_AXES (R148). -/
def axisView (s : State) (a : Axis) : AxisView :=
  let d := s.drive.get a
  { state := d.state
    enable := d.enable
    brake := d.brake
    brakeLeft := d.brakeTimer.map (msLeft s.time.clock)
    lastActual := d.lastActual
    lastStatus := d.lastStatus
    trackingError := d.trackingError
    silence := d.silence
    graceLeft := d.grace.map (msLeft s.time.clock)
    levels := levelsByte (sourceLevels s a (anyCut s (otherAxes a)))
    cutMask := d.cutMask
    lastCause := d.lastCause
    nextTag := d.nextTag }

/-- READ_AXES (R148). -/
def execReadAxes (port : Port) (tag : Byte) (s : State) : Host.Outcome State Fault Refusal :=
  .next (serve (.readAxes port tag) (fun s => accept s (.axes (PerAxis.build (axisView s)) s.lines)) s)

/-! ## Drive lines and timers -/

/-- Characters on a drive line, in order (R135, R137). -/
def execDriveReply (axis : Axis) (chars : List Byte) (s : State) : Host.Outcome State Fault Refusal :=
  .next (if s.heldInReset then s else chars.foldl (fun t b => takeDriveCharacter axis b t) s)

/-- The grace timer of the axis is due (R141). -/
def graceDue (a : Axis) (s : State) : Bool := timerDue s.time.clock (s.drive.get a).grace

/-- The expiry of the grace timer (R141). -/
def execGraceTimerExpiry (axis : Axis) (s : State) : Host.Outcome State Fault Refusal :=
  .next (if !s.heldInReset && graceDue axis s then followingRise axis s else s)

/-- The brake timer of a RELEASING axis is due (R132). -/
def releasingDue (a : Axis) (s : State) : Bool :=
  timerDue s.time.clock (s.drive.get a).brakeTimer && (s.drive.get a).state == .releasing

/-- The expiry of the brake timer in RELEASING (R132). -/
def execBrakeTimerExpiryReleasing (axis : Axis) (s : State) : Host.Outcome State Fault Refusal :=
  .next (if !s.heldInReset && releasingDue axis s then enterOn axis s else s)

/-- The brake timer of an axis in the setting part of STOPPING is due (R134). -/
def settingDue (a : Axis) (s : State) : Bool :=
  timerDue s.time.clock (s.drive.get a).brakeTimer && (s.drive.get a).state == .stopping .setting

/-- The expiry of the brake timer in the setting part (R134). -/
def execBrakeTimerExpirySetting (axis : Axis) (s : State) : Host.Outcome State Fault Refusal :=
  .next (if !s.heldInReset && settingDue axis s then enterOff axis s else s)

/-! ## Cut-off lines (R142, R143) -/

/-- A cut-off line takes a level: a rise cuts, a fall has no effect on any axis (R142, R143). A rise needs a low line
(log 6). -/
def execCutSourceRise (line : CutLine) (level : Bool) (s : State) : Host.Outcome State Fault Refusal :=
  let s1 := s.setLines (s.lines.setLevel line level)
  .next (if !s.heldInReset && level && !s.lines.level line then cutByLine (lineSource line) s1 else s1)

end Sys2Proof.Machine
end

