-- ==== Sys2Proof/Machine/LinkEvents.lean ====
section
/-! DEFINITION. LinkEvents: the commands of the link interface (09): characters, gaps, replies sent, rate changes, and
READ_STATUS. -/

namespace Sys2Proof.Machine

/-- A character received on a port (R165). -/
def execLinkCharacter (port : Port) (char : Byte) (s : State) : Host.Outcome State Fault Refusal :=
  .next (if s.heldInReset then s else takeCharacter port char s)

/-- The gap has run out on a partial frame of the port (R165). -/
def execLinkGapExpiry (port : Port) (s : State) : Host.Outcome State Fault Refusal :=
  .next (if s.heldInReset then s else s.modPort port (gapDiscard s.time.elapsed))

/-- The last character of the reply in transmission has left the port (R168). -/
def execReplySent (port : Port) (s : State) : Host.Outcome State Fault Refusal :=
  .next (if s.heldInReset then s else s.modPort port replyGone)

/-- The port can change to its image rate (R163). -/
def rateChangeDue (p : Port) (s : State) : Bool := s.isValid && rateReady (s.image.ports.get p) (s.link.get p)

/-- The port changes to its image rate (R163). -/
def execPortRateChange (port : Port) (s : State) : Host.Outcome State Fault Refusal :=
  .next
    (if !s.heldInReset && rateChangeDue port s then
      s.modPort port fun q => { q with rate := (s.image.ports.get port).rate }
    else s)

/-! ## READ_STATUS (R173) -/

/-- R173. -/
def statusView (p : Port) (s : State) : StatusView :=
  let q := s.link.get p
  { port := p
    rights := q.rights
    rate := q.rate
    refusal := q.refusal
    refusalCount := q.refusalCount
    framing := q.framing
    check := q.check
    overrun := q.overrun
    load := s.loadName
    clock := s.time.status
    listState := s.ctrl.listState
    phase := s.ctrl.phase
    activeId := s.ctrl.activeId
    axisStates := s.drive.map (·.state)
    lines := s.lines
    latch := s.loader.latch }

/-- READ_STATUS (R173). -/
def execReadStatus (port : Port) (tag : Byte) (s : State) : Host.Outcome State Fault Refusal :=
  .next (serve (.readStatus port tag) (fun s => accept s (.status (statusView port s))) s)

end Sys2Proof.Machine
end

