-- ==== Sys2Proof/Machine/Instant.lean ====
section
/-! DEFINITION. Instant: the work of one demand instant (R64, R70, R92, R102, R103, R139), in the order of log 9. -/

namespace Sys2Proof.Machine

/-! ## The demand timer (R64, R65) -/

/-- The demand timer has expired. -/
def DemandTimer.due (t : TimeBase) : DemandTimer → Bool
  | .atSiteTime n => n ≤ t.clock
  | .atElapsed n => n ≤ t.elapsed

/-- A demand instant is due. -/
def State.instantDue (s : State) : Bool := s.time.nextInstant.due s.time

/-- The site time of the instant: the multiple itself, or the held time (R64; log 10). -/
def instantTime (t : TimeBase) : Nat :=
  match t.nextInstant with
  | .atSiteTime n => n
  | .atElapsed _ => t.clock

/-- The first instant strictly after the present ST; at the largest value a period of elapsed time on (R64, R65; log 11). -/
def realign (period : Nat) (t : TimeBase) : DemandTimer :=
  if t.clock = clockMax then .atElapsed (t.elapsed + period) else .atSiteTime (nextMultiple period t.clock)

/-- The instant after the one being taken (R64). -/
def instantAfter (period : Nat) (t : TimeBase) : DemandTimer :=
  match t.nextInstant with
  | .atSiteTime _ => realign period t
  | .atElapsed n => if t.clock = clockMax then .atElapsed (n + period) else realign period t

/-! ## Steps 1 to 5 (R70) -/

/-- The profile in force at the instant (R92). -/
def selectProfile (forceGust gust : Bool) : Profile := if forceGust || gust then .gust else .calm

/-- Step 1: the instant recorded, the profile selected. -/
def beginInstant (t : Nat) (gust : Bool) (s : State) : State :=
  s.setTraj { s.traj with lastInstant := some t, profile := selectProfile s.traj.forceGust gust }

/-- Run-out is found at t (R83). -/
def runOutAt (t : Nat) (s : State) : Bool :=
  match s.traj.source with
  | .track c => c.lastNodeTime + nodeSpan < t
  | .freeze | .stow => false

/-- The reference is outside the limits, under TRACK (R84). -/
def limitAt (s : State) : Bool :=
  match s.traj.source with
  | .track _ =>
    let r := sourceReferences s
    outsideLimits s.image r.az r.el r.rot
  | .freeze | .stow => false

/-- Steps 2 to 5: the state they leave, and the ending they report. -/
def evaluateReference (t : Nat) (s : State) : State × Option OutcomeKind :=
  let s1 := walkNodes t (adoptSlot t s)
  if runOutAt t s1 then (adoptFreeze s1, some .runOut)
  else
    let s2 := evaluateBase t s1
    if limitAt s2 then (raise .limitEnd (adoptFreeze s2), some .limit) else (s2, none)

/-! ## Steps 6 to 8 -/

/-- The step rule on one axis under the limits of the profile in force (R95). DEDUCED (log 50): it acts at once on the e that a
correction taken just before the instant has moved (R70, R100, worked case 5.8), against the last sentence of R79. -/
def stepTrajectory (l : AxisLimits) (t : TrajectoryAxis) : TrajectoryAxis :=
  let m := stepRule l.amax l.vmax ⟨t.e, t.w⟩
  { t with e := m.e, w := m.w, demand := t.sourceReference + m.e }

/-- The demand formed: the demand step is what it moved since the previous instant (R70 step 7, R80; log 14). -/
def issueDemand (t : TrajectoryAxis) : TrajectoryAxis :=
  { t with demandStep := t.demand - t.stepFrom, issued := t.demand, stepFrom := t.demand }

/-- Steps 6 and 7 on one axis (R70, R80). -/
def moveAxis (l : AxisLimits) (d : DriveAxis) (t : TrajectoryAxis) : TrajectoryAxis :=
  issueDemand <|
    match d.state with
    | .on | .stopping _ => stepTrajectory l t
    | .cut => holdAxis d.lastActual t
    | .off | .releasing => t

/-- Steps 6 and 7 on the three axes. -/
def moveAxes (s : State) : State := s.modAllTraj fun a => moveAxis (s.limits.get a) (s.drive.get a)

/-! ## Reports (R85, R83, R102, R103) -/

/-- The axis has e and w 0. -/
def TrajectoryAxis.still (t : TrajectoryAxis) : Bool := t.e == 0 && t.w == 0

/-- The arrival watch is set and every axis is at rest (R102). -/
def arrivedAt (s : State) : Bool := s.traj.arrivalSet && allAxes.all fun a => (s.traj.axes.get a).still

/-- The at-rest reports of the instant (R103). -/
def reportRest (moved s : State) : State :=
  allAxes.foldl (fun t a => if (moved.traj.axes.get a).still then atRest a t else t) s

/-- The ending report of the instant (R42). -/
def reportEnding (serial : Nat) (ending : Option OutcomeKind) (s : State) : State :=
  match ending with
  | none => s
  | some outcome => endReport outcome serial s

/-- The arrival report of the instant: the watch is spent (R102). -/
def reportArrival (moved s : State) : State :=
  if arrivedAt moved then arrivalReport moved.traj.adoptedSerial (s.setTraj { s.traj with arrivalSet := false }) else s

/-! ## The instant -/

/-- A demand instant taken at t with the GUST line at a level (R70; log 9). -/
def takeInstant (t : Nat) (gust : Bool) (s : State) : State :=
  let (s1, ending) := evaluateReference t (beginInstant t gust s)
  let s2 := sendFrames t (moveAxes (silenceCheck s1))
  reportArrival s2 (reportRest s2 (reportEnding s2.traj.adoptedSerial ending s2))

/-- A demand instant that is due, with the demand timer moved on (R64). -/
def demandInstant (gust : Bool) (s : State) : State :=
  let t := instantTime s.time
  let s1 := s.setTime { s.time with nextInstant := instantAfter s.period s.time }
  takeInstant t gust s1

end Sys2Proof.Machine
end

