-- ==== Sys2Proof/Machine/TimeOps.lean ====
section
/-! DEFINITION. TimeOps: the time base's work (03) and the expiries it moves in other blocks: counting, PPS edges, applied
time sets, record expiry and start watches. -/

namespace Sys2Proof.Machine

/-! ## Counting (R55, R57) -/

/-- One microsecond passes (R55): the elapsed count rises; the clock rises unless a PPS hold is in progress or it stands at
its largest value. -/
def countMicrosecond (t : TimeBase) : TimeBase :=
  { t with
    elapsed := t.elapsed + 1
    clock := if t.holdEnd.isSome || t.clock == clockMax then t.clock else t.clock + 1 }

/-! ## Record expiry and start watches (R19, R20, R30) -/

/-- WAITING records expire together (R19, R20): the entries and removals in list order, then for each the controller told
(R31) and TARGET_ENDED. That no start check comes between the removals is log 40. -/
def expireRecords (rs : List TargetRecord) (s : State) : State :=
  rs.foldl (fun t _ => raise .targetEnded (startCheck t))
    (rs.foldl (fun t r => removeWithOutcome r .expired s.time.clock 0 t) s)

/-- The record has reached its expire time and waits (R19). -/
def expiryDue (now : Nat) (r : TargetRecord) : Bool := r.status == .waiting && decide (r.expire ≤ now)

/-- The WAITING records whose expire time is a given one, in list order (R20). -/
def expiringAt (time : Nat) (records : List TargetRecord) : List TargetRecord :=
  records.filter fun r => r.status == .waiting && r.expire == time

/-- The expiry of a record by id, if it is due, with the records whose expire time equals its own (R19, R20). -/
def expireIfDue (id : Nat) (s : State) : State :=
  match findRecord id s.list.records with
  | none => s
  | some r => if expiryDue s.time.clock r then expireRecords (expiringAt r.expire s.list.records) s else s

/-- Every record due expires, in list order, each with an entry of its own (R20). -/
def expireAllDue (s : State) : State := expireRecords (s.list.records.filter (expiryDue s.time.clock)) s

/-- The watch has not expired and its start time is reached (R30). -/
def watchDue (now : Nat) (w : StartWatch) : Bool := !w.expired && decide (w.start ≤ now)

/-- The watches of an id expire. -/
def expireWatch (id : Nat) (s : State) : State :=
  s.modCtrl fun c => { c with watches := c.watches.map fun w => if w.id = id then { w with expired := true } else w }

/-- Every watch judged against a clock that a time set has moved (R30; log 22); new expiries take the start check. -/
def judgeWatches (s : State) : State :=
  let due := s.ctrl.watches.any (watchDue s.time.clock)
  let s1 := s.modCtrl fun c =>
    { c with watches := c.watches.map fun w => { w with expired := decide (w.start ≤ s.time.clock) } }
  if due then startCheck s1 else s1

/-! ## PPS edges (R60 to R63) -/

/-- A duration that is running keeps the part still to run (R57): its expiry moves with the clock. -/
def shiftExpiry (delta : Int) (expiry : Option Nat) : Option Nat := expiry.map fun x => ((x : Int) + delta).toNat

/-- The durations of the target controller (R57). -/
def shiftController (delta : Int) (c : Controller) : Controller :=
  { c with
    settleTimeout := shiftExpiry delta c.settleTimeout
    settleHold := shiftExpiry delta c.settleHold
    dwellTimer := shiftExpiry delta c.dwellTimer }

/-- The durations of an axis (R57). -/
def shiftDrive (delta : Int) (d : DriveAxis) : DriveAxis :=
  { d with brakeTimer := shiftExpiry delta d.brakeTimer, grace := shiftExpiry delta d.grace }

/-- The time base at an applied set (R60). -/
def setClock (period value : Nat) (t : TimeBase) : TimeBase :=
  { t with
    clock := value
    status := .free
    pendingSet := none
    holdEnd := none
    pulseWatch := some (value + pulseWatchTime)
    lastOffset := none
    nextInstant := .atSiteTime (nextMultiple period value)
    largestReported := false }

/-- The pending set is applied (R60): the clock, the durations, then the named times (R20, R30). -/
def applySet (value : Nat) (s : State) : State :=
  let delta : Int := (value : Int) - (s.time.clock : Int)
  let s1 := s.setTime (setClock s.period value s.time)
  let s2 := (s1.modCtrl (shiftController delta)).setDrive (s1.drive.map (shiftDrive delta))
  judgeWatches (if 0 < delta then expireAllDue s2 else s2)

/-- f, the fraction of a second the clock reads at the edge (R61). -/
def ppsFraction (t : TimeBase) : Nat := t.clock % second

/-- The last PPS offset for a fraction (R61, R62). -/
def ppsOffset (f : Nat) : Int := if f < 500000 then f else (f : Int) - 1000000

/-- The edge is inside the window (R61). -/
def insideWindow (f : Nat) : Bool := f ≤ ppsWindow || second - ppsWindow ≤ f

/-- The correction of an edge inside the window (R61): held when fast, stepped forward when slow. A hold in progress has
ended. DESIGN CHOICE (log 43): the offset recorded at f = 0 is 0. -/
def disciplineClock (t : TimeBase) : TimeBase :=
  let f := ppsFraction t
  let t1 := { t with status := .locked, lastOffset := some (ppsOffset f), holdEnd := none }
  if f = 0 then t1
  else if f ≤ ppsWindow then { t1 with holdEnd := some (t.elapsed + f) }
  else { t1 with clock := t.clock + (second - f) }

/-- The pulse watch started from the value the clock holds (R63). -/
def startPulseWatch (t : TimeBase) : TimeBase := { t with pulseWatch := some (t.clock + pulseWatchTime) }

/-- The step of an edge takes the clock to the expiry of the running pulse watch, or past it (R57). -/
def stepPassesWatch (before after : TimeBase) : Bool :=
  decide (before.clock < after.clock) && timerDue after.clock before.pulseWatch

/-- An edge that disciplines the clock (R61, R62). A pulse watch whose expiry the step reaches or passes expires at the step and
raises TIME_FAULT (R57, R63). DEDUCED (log 47): the edge then makes the clock LOCKED and starts the watch anew. -/
def disciplineEdge (s : State) : State :=
  let f := ppsFraction s.time
  if insideWindow f then
    let t := disciplineClock s.time
    let s1 := s.setTime (startPulseWatch t)
    if stepPassesWatch s.time t then raise .timeFault s1 else s1
  else
    raise .timeFault
      (s.setTime (startPulseWatch { s.time with status := .free, lastOffset := some (ppsOffset f), holdEnd := none }))

/-- A rising edge of PPS (R60 to R62). -/
def ppsEdge (s : State) : State :=
  match s.time.pendingSet with
  | some value => applySet value s
  | none => if s.time.status = .unset then s else disciplineEdge s

/-! ## The largest value (R55) -/

/-- LOCKED becomes FREE; the others stay (R55, R63). -/
def loseLock (st : ClockStatus) : ClockStatus :=
  match st with
  | .locked => .free
  | .unset => .unset
  | .free => .free

/-- The demand timer goes on in elapsed time (R64; log 11). -/
def holdTimer (t : TimeBase) : DemandTimer :=
  match t.nextInstant with
  | .atSiteTime n => .atElapsed (t.elapsed + (n - t.clock))
  | .atElapsed n => .atElapsed n

/-- The count has reached its largest value and that has not been reported. -/
def largestDue (t : TimeBase) : Bool := t.clock == clockMax && !t.largestReported

/-- Reaching the largest value (R55). -/
def reachLargest (s : State) : State :=
  raise .timeFault
    (s.setTime
      { s.time with status := loseLock s.time.status, largestReported := true, nextInstant := holdTimer s.time })

end Sys2Proof.Machine
end

