-- ==== Sys2Proof/Machine/NightList.lean ====
section
/-! DEFINITION. NightList: the commands of the list store (01): ADD_TARGET, APPEND_NODES, DELETE_TARGET, READ_LIST,
READ_OUTCOMES and the expiry of a record. -/

namespace Sys2Proof.Machine

/-! ## ADD_TARGET (R11, R12) -/

/-- A new record (R2, R11). -/
def newRecord (h : WireHeader) (wrap : WrapPreference) (options : Options) (serial : Nat) (nodes : List TrackNode) :
    TargetRecord where
  id := h.id.toNat
  start := h.start.toNat
  expire := h.expire.toNat
  dwell := h.dwell.toNat
  wrap := wrap
  options := options
  status := .waiting
  serial := serial
  nodes := nodes
  late := false
  actualStart := none
  firstTrack := none
  guideCount := 0

/-- The controller is told that a WAITING record has joined (R11, R30): a watch, and the start check at once when the start
time has been reached. -/
def watchRecord (r : TargetRecord) (s : State) : State :=
  let reached := decide (r.start ≤ s.time.clock)
  let s1 := s.modCtrl fun c => { c with watches := c.watches ++ [⟨r.id, r.start, reached⟩] }
  if reached then startCheck s1 else s1

/-- The record joins the list (R11); the free count of the reply is the list store's after the addition (log 25). -/
def acceptTarget (r : TargetRecord) (s : State) : Answer :=
  let s1 := s.setList (addRecord r s.list)
  accept (watchRecord r s1) (.added r.serial (freeCount s1.list))

/-- R12. -/
def addTargetBody (h : WireHeader) (wire : List WireNode) (s : State) : Answer :=
  let nodes := wire.map nodeOf
  if s.time.status = .unset then refuse s .timeUnset
  else
    match headerOf? s.image s.time.clock h nodes with
    | none => refuse s .badValue
    | some (wrap, options) =>
      if !inOrder nodes then refuse s .nodeOrder
      else if (findRecord h.id.toNat s.list.records).isSome then refuse s .idInUse
      else if listCapacity ≤ s.list.records.length then refuse s .listFull
      else if freeCount s.list < nodes.length then refuse s .poolFull
      else acceptTarget (newRecord h wrap options s.list.nextSerial nodes) s

/-- ADD_TARGET (R11). -/
def execAddTarget (port : Port) (tag : Byte) (header : WireHeader) (nodes : List WireNode) (s : State) :
    Host.Outcome State Fault Refusal :=
  .next (serve (.addTarget port tag header nodes) (addTargetBody header nodes) s)

/-! ## APPEND_NODES (R14, R15) -/

/-- The new node times follow the record's (R15 order 4). -/
def appendInOrder (now : Nat) (r : TargetRecord) (nodes : List TrackNode) : Bool :=
  inOrderFrom (lastTime r) nodes && (r.status == .waiting || decide (now < firstTime nodes))

/-- R15. -/
def appendNodesBody (id : Half) (wire : List WireNode) (s : State) : Answer :=
  let nodes := wire.map nodeOf
  if !nodes.all (nodeInRange s.image) then refuse s .badValue
  else
    match findRecord id.toNat s.list.records with
    | none => refuse s .noSuchTarget
    | some r =>
      if !appendInOrder s.time.clock r nodes then refuse s .nodeOrder
      else if recordCapacity < r.nodes.length + nodes.length then refuse s .recordFull
      else if freeCount s.list < nodes.length then refuse s .poolFull
      else
        let l := appendToRecord r.id nodes s.list
        accept (s.setList l) (.appended (r.nodes.length + nodes.length) (freeCount l))

/-- APPEND_NODES (R14). -/
def execAppendNodes (port : Port) (tag : Byte) (id : Half) (nodes : List WireNode) (s : State) :
    Host.Outcome State Fault Refusal :=
  .next (serve (.appendNodes port tag id nodes) (appendNodesBody id nodes) s)

/-! ## DELETE_TARGET (R17) -/

/-- R17: the record leaves without an outcome, the controller takes its start check (R31). -/
def deleteTargetBody (id : Half) (s : State) : Answer :=
  match findRecord id.toNat s.list.records with
  | none => refuse s .noSuchTarget
  | some r =>
    if r.status = .active then refuse s .targetActive
    else
      let s1 := removeWithoutOutcome r.id s
      accept (startCheck s1) (.deleted (freeCount s1.list))

/-- DELETE_TARGET (R17). -/
def execDeleteTarget (port : Port) (tag : Byte) (id : Half) (s : State) : Host.Outcome State Fault Refusal :=
  .next (serve (.deleteTarget port tag id) (deleteTargetBody id) s)

/-! ## READ_LIST (R22) -/

/-- Records with their positions, from a position on. -/
def numbered (i : Nat) : List TargetRecord → List (Nat × TargetRecord)
  | [] => []
  | r :: rest => (i, r) :: numbered (i + 1) rest

/-- R22: up to 8 records from a position from 0 to 63. -/
def readListBody (position : Byte) (s : State) : Answer :=
  let first := position.toNat
  if 63 < first then refuse s .badValue
  else
    accept s
      (.list s.list.records.length (freeCount s.list) s.list.changeCount
        (numbered first ((s.list.records.drop first).take 8)))

/-- READ_LIST (R22). -/
def execReadList (port : Port) (tag : Byte) (position : Byte) (s : State) : Host.Outcome State Fault Refusal :=
  .next (serve (.readList port tag position) (readListBody position) s)

/-! ## READ_OUTCOMES (R25) -/

/-- R25: the oldest 8 of the entries after a serial, newest first. -/
def readOutcomesBody (after : Word) (s : State) : Answer :=
  let selected := s.list.log.filter fun o => after.toNat < o.serial
  accept s
    (.outcomes ((s.list.log.head?.map (·.serial)).getD 0) ((s.list.log.getLast?.map (·.serial)).getD 0)
      (decide (8 < selected.length)) (selected.take 8).reverse)

/-- READ_OUTCOMES (R25). -/
def execReadOutcomes (port : Port) (tag : Byte) (after : Word) (s : State) : Host.Outcome State Fault Refusal :=
  .next (serve (.readOutcomes port tag after) (readOutcomesBody after) s)

/-! ## RECORD_EXPIRY (R19) -/

/-- The expiry of a record that is due; otherwise it does not happen (log 3). -/
def execRecordExpiry (id : Half) (s : State) : Host.Outcome State Fault Refusal :=
  .next (if s.heldInReset then s else expireIfDue id.toNat s)

end Sys2Proof.Machine
end

