-- ==== Sys2Proof/Machine/NoticeRequests.lean ====
section
/-! DEFINITION. NoticeRequests: the commands of the notice unit (10): READ_NOTICES, SET_ROUTING, SET_THRESHOLD. -/

namespace Sys2Proof.Machine

/-! ## READ_NOTICES (R184) -/

/-- The pending sources of one level, with it, in source order. -/
def atLevel (routing : List RoutingEntry) (sources : List NoticeSource) (level : Nat) : List (NoticeSource × Nat) :=
  (sources.filter fun src => (routingOf routing src).level == level).map fun src => (src, level)

/-- Highest level first, lowest source number first within a level (R184). -/
def byLevel (routing : List RoutingEntry) (sources : List NoticeSource) : List (NoticeSource × Nat) :=
  atLevel routing sources 3 ++ atLevel routing sources 2 ++ atLevel routing sources 1 ++ atLevel routing sources 0

/-- R184. -/
def readNoticesBody (p : Port) (s : State) : Answer :=
  let q := s.notice.ports.get p
  let q' := judgePort s.notice.routing { q with waiting := [] }
  accept (s.setNotice { s.notice with ports := s.notice.ports.set p q' })
    (.notices (byLevel s.notice.routing q.waiting) q.threshold)

/-- READ_NOTICES (R184). -/
def execReadNotices (port : Port) (tag : Byte) (s : State) : Host.Outcome State Fault Refusal :=
  .next (serve (.readNotices port tag) (readNoticesBody port) s)

/-! ## SET_ROUTING (R185) -/

/-- The source leaves the pending set of a port the change removes (R185 step 2). -/
def dropSource (src : NoticeSource) (before after : RoutingEntry) (p : Port) (q : NoticePort) : NoticePort :=
  let i := portNumber p
  if after.level = 0 ∨ (before.mask.getLsbD i ∧ ¬after.mask.getLsbD i) then
    { q with waiting := q.waiting.filter (· != src) }
  else q

/-- An entry rewritten (R185). -/
def reroute (src : NoticeSource) (after : RoutingEntry) (n : Notices) : Notices :=
  let before := routingOf n.routing src
  judgeAttention
    { n with
      routing := n.routing.set (noticeNumber src) after
      ports := PerPort.build fun p => dropSource src before after p (n.ports.get p) }

/-- R185. -/
def setRoutingBody (source mask level : Byte) (s : State) : Answer :=
  match sourceOf? source with
  | none => refuse s .badValue
  | some src =>
    if 15 < mask.toNat ∨ 3 < level.toNat then refuse s .badValue
    else
      let after : RoutingEntry := ⟨mask.extractLsb' 0 4, level.toNat⟩
      accept (s.setNotice (reroute src after s.notice)) (.routing (routingOf s.notice.routing src) after)

/-- SET_ROUTING (R185). -/
def execSetRouting (port : Port) (tag : Byte) (source mask level : Byte) (s : State) :
    Host.Outcome State Fault Refusal :=
  .next (serve (.setRouting port tag source mask level) (setRoutingBody source mask level) s)

/-! ## SET_THRESHOLD (R186) -/

/-- R186: on the port it arrives on; NOT_CONFIGURED before VALID. -/
def setThresholdBody (p : Port) (threshold : Byte) (s : State) : Answer :=
  if !s.isValid then refuse s .notConfigured
  else if 2 < threshold.toNat then refuse s .badValue
  else
    let q := s.notice.ports.get p
    let q' := judgePort s.notice.routing { q with threshold := threshold.toNat }
    accept (s.setNotice { s.notice with ports := s.notice.ports.set p q' })
      (.threshold q.threshold threshold.toNat q'.attention)

/-- SET_THRESHOLD (R186). -/
def execSetThreshold (port : Port) (tag : Byte) (threshold : Byte) (s : State) : Host.Outcome State Fault Refusal :=
  .next (serve (.setThreshold port tag threshold) (setThresholdBody port threshold) s)

end Sys2Proof.Machine
end

