-- ==== Sys2Proof/Machine/Pointing.lean ====
section
/-! DEFINITION. Pointing: the commands of the trajectory unit (04, 05): DEMAND_INSTANT, READ_POINTING, READ_PREDICT,
FORCE_GUST and CLEAR_FORCE. -/

namespace Sys2Proof.Machine

/-- GUST takes a level (R92, R173), and the demand instant is taken when the demand timer has expired (R64, R70). With no
instant due the level moves alone: a GUST edge between two instants (log 5). -/
def execDemandInstant (gust : Bool) (s : State) : Host.Outcome State Fault Refusal :=
  let s1 := s.setLines { s.lines with gust := gust }
  .next (if !s.heldInReset && s.instantDue then demandInstant gust s1 else s1)

/-! ## READ_POINTING (R87) -/

def Source.kind : Source → SourceKind
  | .track _ => .track
  | .freeze => .freeze
  | .stow => .stow

/-- Target id and node time of the node in force, under TRACK (R87). -/
def Source.trackView : Source → Option (Nat × Nat)
  | .track c => some (c.id, c.node.time)
  | .freeze => none
  | .stow => none

/-- One axis of READ_POINTING (R87). -/
def pointingAxis (s : State) (a : Axis) : PointingAxis where
  demand := (s.traj.axes.get a).demand
  reference := axisReference s a
  e := (s.traj.axes.get a).e
  w := (s.traj.axes.get a).w
  demandStep := (s.traj.axes.get a).demandStep
  lastError := (s.drive.get a).trackingError.map (·.error)
  held := !s.driven a

/-- R87. -/
def pointingView (s : State) : PointingView where
  lastInstant := s.traj.lastInstant
  axes := PerAxis.build (pointingAxis s)
  profile := s.traj.profile
  forceGust := s.traj.forceGust
  source := s.traj.source.kind
  slot := s.traj.slot
  adoptedSerial := s.traj.adoptedSerial
  track := s.traj.source.trackView
  listState := s.ctrl.listState
  phase := s.ctrl.phase
  activeId := s.ctrl.activeId
  depth := s.corr.stack.length
  gAz := s.corr.gAz
  gEl := s.corr.gEl

/-- READ_POINTING (R87). -/
def execReadPointing (port : Port) (tag : Byte) (s : State) : Host.Outcome State Fault Refusal :=
  .next (serve (.readPointing port tag) (fun s => accept s (.pointing (pointingView s))) s)

/-! ## READ_PREDICT (R88) -/

/-- t′: the last demand instant plus the lead; a free value before the first instant (log 12). -/
def predictTime (s : State) (lead : Nat) : Nat :=
  match s.traj.lastInstant with
  | some t => t + lead * 1000
  | none => Config.predictTimeBeforeInstant lead

/-- The base of an axis at a predicted time (R88). -/
def predictBase (s : State) (t : Nat) (a : Axis) : Int :=
  match s.traj.source with
  | .track c => (trackAt (contextAt t c s) t).get a
  | .freeze => (s.traj.axes.get a).base
  | .stow => (s.traj.axes.get a).base

/-- The source reference of an axis at a predicted time (R88). -/
def predictReference (s : State) (t : Nat) (a : Axis) : Int :=
  predictBase s t a + (s.traj.axes.get a).offset + (s.traj.axes.get a).guide

/-- t′ lies beyond run-out (R88). -/
def predictBeyond (s : State) (t : Nat) : Bool :=
  match s.traj.source with
  | .track c => (contextAt t c s).lastNodeTime + nodeSpan < t
  | .freeze | .stow => false

/-- R88. -/
def readPredictBody (lead : Half) (s : State) : Answer :=
  if leadMax < lead.toNat then refuse s .badValue
  else
    let t := predictTime s lead.toNat
    accept s
      (.predict (reduceTurn (predictReference s t .az)) (predictReference s t .el) t s.traj.source.kind
        (predictBeyond s t))

/-- READ_PREDICT (R88). -/
def execReadPredict (port : Port) (tag : Byte) (lead : Half) (s : State) : Host.Outcome State Fault Refusal :=
  .next (serve (.readPredict port tag lead) (readPredictBody lead) s)

/-! ## FORCE_GUST, CLEAR_FORCE (R93) -/

/-- The latch takes a value; the reply gives it and the GUST level (R93). -/
def latchForce (value : Bool) (s : State) : Answer :=
  accept (s.setTraj { s.traj with forceGust := value }) (.force value s.lines.gust)

/-- FORCE_GUST (R93). -/
def execForceGust (port : Port) (tag : Byte) (s : State) : Host.Outcome State Fault Refusal :=
  .next (serve (.forceGust port tag) (latchForce true) s)

/-- CLEAR_FORCE (R93). -/
def execClearForce (port : Port) (tag : Byte) (s : State) : Host.Outcome State Fault Refusal :=
  .next (serve (.clearForce port tag) (latchForce false) s)

end Sys2Proof.Machine
end

