-- ==== Sys2Proof/Machine/Sequencing.lean ====
section
/-! DEFINITION. Sequencing: the commands of the target controller (02): RUN, HOLD, STOP, ABORT, RELEASE, READ_SEQUENCE, its
expiries, and the STOW and DOME_READY lines. -/

namespace Sys2Proof.Machine

/-- The reply data of the requests of 2.7: the state after the request. -/
def sequencingReply (s : State) : ReplyData := .sequencing s.ctrl.listState s.ctrl.phase s.ctrl.activeId

/-- An accepted request of 2.7. -/
def acceptSequencing (s : State) : Answer := accept s (sequencingReply s)

/-! ## RUN, HOLD, STOP (R45 to R47) -/

/-- The refusal of RUN's entry from STOP or HOLD (R45, orders 3 to 5). -/
def runRefusal (s : State) : Option Code :=
  if s.time.pendingSet.isSome then some .wrongState
  else if s.time.status = .unset then some .timeUnset
  else if !s.allOn then some .wrongState
  else none

/-- R45. -/
def runBody (s : State) : Answer :=
  match s.ctrl.listState with
  | .stow => refuse s .wrongState
  | .run => acceptSequencing s
  | .stop | .hold =>
    match runRefusal s with
    | some code => refuse s code
    | none => acceptSequencing (startCheck (s.setListState .run))

/-- RUN (R45). -/
def execRun (port : Port) (tag : Byte) (s : State) : Host.Outcome State Fault Refusal :=
  .next (serve (.run port tag) runBody s)

/-- R46. -/
def holdBody (s : State) : Answer :=
  match s.ctrl.listState with
  | .run => acceptSequencing (s.setListState .hold)
  | .hold => acceptSequencing s
  | .stop | .stow => refuse s .wrongState

/-- HOLD (R46). -/
def execHold (port : Port) (tag : Byte) (s : State) : Host.Outcome State Fault Refusal :=
  .next (serve (.hold port tag) holdBody s)

/-- R47. -/
def stopBody (s : State) : Answer :=
  match s.ctrl.listState with
  | .run | .hold => acceptSequencing (stopList .aborted s)
  | .stop => acceptSequencing s
  | .stow => refuse s .wrongState

/-- STOP (R47). -/
def execStop (port : Port) (tag : Byte) (s : State) : Host.Outcome State Fault Refusal :=
  .next (serve (.stop port tag) stopBody s)

/-! ## ABORT, RELEASE (R48, R49) -/

/-- The operand names the active target: 0, or its id (R48, R49). -/
def namesActive (id : Half) (s : State) : Bool := id.toNat == 0 || id.toNat == s.ctrl.activeId

/-- R48. -/
def abortBody (id : Half) (s : State) : Answer :=
  if !s.targetActive then refuse s .wrongState
  else if !namesActive id s then refuse s .noSuchTarget
  else acceptSequencing (endTarget .aborted s)

/-- ABORT (R48). -/
def execAbort (port : Port) (tag : Byte) (id : Half) (s : State) : Host.Outcome State Fault Refusal :=
  .next (serve (.abort port tag id) (abortBody id) s)

/-- R49. -/
def releaseBody (id : Half) (s : State) : Answer :=
  if !s.targetActive then refuse s .wrongState
  else if !namesActive id s then refuse s .noSuchTarget
  else if s.ctrl.phase ≠ .track then refuse s .wrongState
  else acceptSequencing (endTarget .released s)

/-- RELEASE (R49). -/
def execRelease (port : Port) (tag : Byte) (id : Half) (s : State) : Host.Outcome State Fault Refusal :=
  .next (serve (.release port tag id) (releaseBody id) s)

/-! ## READ_SEQUENCE (R53) -/

/-- The earliest of a list of times. -/
def earliest : List Nat → Option Nat
  | [] => none
  | x :: rest =>
    match earliest rest with
    | none => some x
    | some y => some (min x y)

/-- R53. -/
def sequenceView (s : State) : SequenceView where
  listState := s.ctrl.listState
  phase := s.ctrl.phase
  activeId := s.ctrl.activeId
  serial := s.ctrl.serial
  timeoutLeft := s.ctrl.settleTimeout.map (msLeft s.time.clock)
  holdLeft := s.ctrl.settleHold.map (msLeft s.time.clock)
  dwellLeft := s.ctrl.dwellTimer.map (msLeft s.time.clock)
  tracked := roundMs (trackedAt s.time.clock s.ctrl)
  lastError := s.ctrl.lastError
  domeReady := s.lines.domeReady
  stow := s.lines.stow
  nextStart := earliest ((s.ctrl.watches.filter fun w => !w.expired).map (·.start))

/-- READ_SEQUENCE (R53). -/
def execReadSequence (port : Port) (tag : Byte) (s : State) : Host.Outcome State Fault Refusal :=
  .next (serve (.readSequence port tag) (fun s => accept s (.sequence (sequenceView s))) s)

/-! ## Expiries (R30, R38, R39, R41) -/

/-- A start watch of this id is due. -/
def startWatchDue (id : Nat) (s : State) : Bool :=
  s.ctrl.watches.any fun w => w.id == id && watchDue s.time.clock w

/-- The expiry of a start watch (R30): the start check is taken. -/
def execStartWatchExpiry (id : Half) (s : State) : Host.Outcome State Fault Refusal :=
  .next (if !s.heldInReset && startWatchDue id.toNat s then startCheck (expireWatch id.toNat s) else s)

/-- The settle-hold timer is due in SETTLE (R38). -/
def settleHoldDue (s : State) : Bool := timerDue s.time.clock s.ctrl.settleHold && s.ctrl.phase == .settle

/-- The expiry of the settle-hold timer (R38). -/
def execSettleHoldExpiry (s : State) : Host.Outcome State Fault Refusal :=
  .next (if !s.heldInReset && settleHoldDue s then enterTrack s else s)

/-- The settle-timeout timer is due in APPROACH or SETTLE (R39). -/
def settleTimeoutDue (s : State) : Bool :=
  timerDue s.time.clock s.ctrl.settleTimeout && (s.ctrl.phase == .approach || s.ctrl.phase == .settle)

/-- The expiry of the settle-timeout timer (R39). -/
def execSettleTimeoutExpiry (s : State) : Host.Outcome State Fault Refusal :=
  .next (if !s.heldInReset && settleTimeoutDue s then endTarget .settleTimeout s else s)

/-- The dwell timer is due in TRACK or SETTLE (R41). -/
def dwellDue (s : State) : Bool :=
  timerDue s.time.clock s.ctrl.dwellTimer && (s.ctrl.phase == .track || s.ctrl.phase == .settle)

/-- The expiry of the dwell timer (R41). -/
def execDwellExpiry (s : State) : Host.Outcome State Fault Refusal :=
  .next (if !s.heldInReset && dwellDue s then endTarget .done s else s)

/-! ## STOW and DOME_READY (R37, R50, R51) -/

/-- STOW rises (R50); before VALID the edge is disregarded and only the level is kept (R51). A rise needs a low line
(log 6). -/
def execStowRise (s : State) : Host.Outcome State Fault Refusal :=
  let s1 := s.setLines { s.lines with stow := true }
  .next (if !s.heldInReset && s.isValid && !s.lines.stow then stowRise s1 else s1)

/-- STOW falls (R51). A fall needs a high line (log 6). -/
def execStowFall (s : State) : Host.Outcome State Fault Refusal :=
  let s1 := s.setLines { s.lines with stow := false }
  .next (if !s.heldInReset && s.isValid && s.lines.stow then stowFall s1 else s1)

/-- A DOME_WAIT target in SETTLE meets a change of DOME_READY (R37). -/
def domeChanged (s : State) : State :=
  if s.ctrl.phase = .settle ∧ s.ctrl.options.domeWait then judgeSettle s else s

/-- DOME_READY takes a level (R37). -/
def execDomeReadyChange (level : Bool) (s : State) : Host.Outcome State Fault Refusal :=
  let s1 := s.setLines { s.lines with domeReady := level }
  .next (if !s.heldInReset && s.lines.domeReady != level then domeChanged s1 else s1)

end Sys2Proof.Machine
end

