-- ==== Sys2Proof/Machine/SiteTime.lean ====
section
/-! DEFINITION. SiteTime: the commands of the time base (03): SET_TIME, READ_TIME, PPS edges, the end of a hold, the pulse
watch and the largest value. -/

namespace Sys2Proof.Machine

/-- R58. -/
def setTimeBody (time : SiteTimeWord) (s : State) : Answer :=
  let value := time.toNat
  if value % second ≠ 0 ∨ setTimeMax < value then refuse s .badValue
  else if s.ctrl.listState ≠ .stop then refuse s .wrongState
  else accept (s.setTime { s.time with pendingSet := some value }) (.timeSet value s.time.status)

/-- SET_TIME (R58). -/
def execSetTime (port : Port) (tag : Byte) (time : SiteTimeWord) (s : State) : Host.Outcome State Fault Refusal :=
  .next (serve (.setTime port tag time) (setTimeBody time) s)

/-- R66. -/
def timeView (s : State) : TimeView where
  time := s.time.clock
  status := s.time.status
  pendingTime := s.time.pendingSet
  holding := s.time.holdEnd.isSome
  lastOffset := s.time.lastOffset
  pulseWatch := s.time.pulseWatch.isSome
  periodMs := s.image.periodMs
  lastInstant := s.traj.lastInstant

/-- READ_TIME (R66). -/
def execReadTime (port : Port) (tag : Byte) (s : State) : Host.Outcome State Fault Refusal :=
  .next (serve (.readTime port tag) (fun s => accept s (.time (timeView s))) s)

/-- A rising edge of PPS (R60 to R63). -/
def execPpsEdge (s : State) : Host.Outcome State Fault Refusal := .next (if s.heldInReset then s else ppsEdge s)

/-- A PPS hold has run its elapsed time (R61). -/
def ppsHoldDue (s : State) : Bool := timerDue s.time.elapsed s.time.holdEnd

/-- The end of a PPS hold (R61): the clock counts on. -/
def execPpsHoldEnd (s : State) : Host.Outcome State Fault Refusal :=
  .next (if !s.heldInReset && ppsHoldDue s then s.setTime { s.time with holdEnd := none } else s)

/-- The pulse watch is due (R63). -/
def pulseWatchDue (s : State) : Bool := timerDue s.time.clock s.time.pulseWatch

/-- The pulse watch expires (R63): FREE if LOCKED, TIME_FAULT, the watch stopped. -/
def losePulse (s : State) : State :=
  raise .timeFault (s.setTime { s.time with status := loseLock s.time.status, pulseWatch := none })

/-- The expiry of the pulse watch (R63). -/
def execPulseWatchExpiry (s : State) : Host.Outcome State Fault Refusal :=
  .next (if !s.heldInReset && pulseWatchDue s then losePulse s else s)

/-- The clock reaches its largest value (R55). -/
def execClockAtLargestValue (s : State) : Host.Outcome State Fault Refusal :=
  .next (if !s.heldInReset && largestDue s.time then reachLargest s else s)

end Sys2Proof.Machine
end

