-- ==== Sys2Proof/Machine/ImageOps.lean ====
section
/-! DEFINITION. ImageOps: the site image: its fields, its checks, and its entry into force (11). -/

namespace Sys2Proof.Machine

/-! ## Words (R189) -/

/-- Word i of an image; 0 past its end. -/
def wordOf (words : List Word) (i : Nat) : Word := words.getD i 0

def lowHalf (w : Word) : Nat := (w.extractLsb' 0 16).toNat

def highHalf (w : Word) : Nat := (w.extractLsb' 16 16).toNat

/-- A field of n bits from bit i on, unsigned. -/
def bitsOf (w : Word) (i n : Nat) : Nat := (w.extractLsb' i n).toNat

/-- A half read as two's complement. -/
def signedHalf (w : Word) (i : Nat) : Int := (w.extractLsb' i 16).toInt

/-- The high half of word 0 (R189). -/
def headerMark : Nat := 0x440A

/-- L, from the header. -/
def imageLength (header : Word) : Nat := lowHalf header

/-- The header passes (R190 check 1). -/
def headerOk (header : Word) : Bool :=
  highHalf header == headerMark && 64 ≤ imageLength header && imageLength header ≤ 256

/-- All words sum to 0 modulo 2^32 (R190 check 2). -/
def sumOk (words : List Word) : Bool := words.foldl (· + ·) 0 == 0

/-! ## Fields (R189) -/

/-- A port's settings from its half. -/
def portSettings (w : Word) (i : Nat) : PortSettings where
  rate := bitsOf w i 2
  plan := w.getLsbD (i + 2)
  guide := w.getLsbD (i + 3)
  offset := w.getLsbD (i + 4)
  threshold := bitsOf w (i + 5) 2

/-- A value for each axis from consecutive words. -/
def axisWords {α : Type} (words : List Word) (first : Nat) (f : Word → α) : PerAxis α :=
  ⟨f (wordOf words first), f (wordOf words (first + 1)), f (wordOf words (first + 2))⟩

/-- The limits of an axis from two consecutive words: vmax then amax. -/
def limitsAt (words : List Word) (i : Nat) : AxisLimits := ⟨(wordOf words i).toNat, (wordOf words (i + 1)).toNat⟩

/-- The two halves of so many words from word i on, low half first. -/
def halvesFrom (words : List Word) (i : Nat) : Nat → List (Word × Nat)
  | 0 => []
  | count + 1 => (wordOf words i, 0) :: (wordOf words i, 16) :: halvesFrom words (i + 1) count

/-- The routing entry of source 4j + k, in bits 8k to 8k + 7 of word 60 + j. -/
def routingAt (words : List Word) (source : Nat) : RoutingEntry :=
  let w := wordOf words (60 + source / 4)
  ⟨w.extractLsb' (8 * (source % 4)) 4, bitsOf w (8 * (source % 4) + 4) 2⟩

/-- The fields of an image (R189). -/
def parseImage (words : List Word) : SiteImage where
  periodMs := (wordOf words 1).toNat
  filterUs := (wordOf words 2).toNat
  ports := ⟨portSettings (wordOf words 3) 0, portSettings (wordOf words 3) 16, portSettings (wordOf words 4) 0,
    portSettings (wordOf words 4) 16⟩
  azLow := (wordOf words 5).toInt
  azHigh := (wordOf words 6).toInt
  elLow := (wordOf words 7).toInt
  elCeil := (wordOf words 8).toInt
  rotLow := (wordOf words 9).toInt
  rotHigh := (wordOf words 10).toInt
  horizon := (halvesFrom words 11 18).map fun x => bitsOf x.1 x.2 16
  calm := ⟨limitsAt words 29, limitsAt words 31, limitsAt words 33⟩
  gust := ⟨limitsAt words 35, limitsAt words 37, limitsAt words 39⟩
  rateCeiling := axisWords words 41 (·.toNat)
  tolerance := axisWords words 44 (bitsOf · 0 20)
  brakeMs := axisWords words 44 (bitsOf · 20 12)
  followLimit := axisWords words 47 (bitsOf · 0 24)
  cutMask := axisWords words 47 (·.extractLsb' 24 8)
  settleHoldMs := lowHalf (wordOf words 50)
  followGraceMs := highHalf (wordOf words 50)
  settleTimeoutMs := (wordOf words 51).toNat
  guiderAngle := (wordOf words 52).toInt
  stepLimit := lowHalf (wordOf words 53)
  guideRange := highHalf (wordOf words 53)
  offsetRange := bitsOf (wordOf words 54) 0 24
  ringDepth := bitsOf (wordOf words 54) 24 8
  coefficients := (halvesFrom words 55 4).map fun x => signedHalf x.1 x.2
  stowElevation := (wordOf words 59).toInt
  routing := (List.range 12).map (routingAt words)

/-! ## Field checks (R189, R190) -/

/-- The range of AZ_LOW and AZ_HIGH (R190). -/
def azSpan : Int := 97200000

/-- vmax 1 to 2,097,152; amax 1 to vmax. -/
def vmaxOk (l : AxisLimits) : Bool := 1 ≤ l.vmax && l.vmax ≤ 2097152

def amaxOk (l : AxisLimits) : Bool := 1 ≤ l.amax && l.amax ≤ l.vmax

/-- The two checks of an axis's limits, at two consecutive words. -/
def limitChecks (i : Nat) (l : AxisLimits) : List (Nat × Bool) := [(i, vmaxOk l), (i + 1, amaxOk l)]

/-- The rate ceiling per period, rounded up, is within the axis's GUST amax (R190). -/
def ceilingOk (periodMs ceiling amax : Nat) : Bool :=
  ceiling ≤ 2147483647 && ceilDiv (ceiling * periodMs * 1000) 256000000 ≤ amax

def toleranceOk (tolerance brakeMs : Nat) : Bool := 1 ≤ tolerance && tolerance ≤ 100000 && brakeMs ≤ 2000

def followOk (limit : Nat) : Bool := 1 ≤ limit && limit ≤ 1000000

/-- A value for each axis checked at consecutive words. -/
def axisChecks (first : Nat) (f : Axis → Bool) : List (Nat × Bool) :=
  allAxes.map fun a => (first + axisNumber a, f a)

/-- The checks of a list of values that lie two to a word. -/
def pairChecks (first : Nat) (ok : List Bool) : List (Nat × Bool) :=
  (List.zip (List.range ok.length) ok).map fun x => (first + x.1 / 2, x.2)

/-- Every field check, in word order (R190 check 3). -/
def fieldChecks (image : SiteImage) : List (Nat × Bool) :=
  [(1, 5 ≤ image.periodMs && image.periodMs ≤ 50),
   (2, image.filterUs ≤ 255),
   (3, image.ports.p0.threshold ≤ 2 && image.ports.p1.threshold ≤ 2),
   (4, image.ports.p2.threshold ≤ 2 && image.ports.p3.threshold ≤ 2),
   (5, within (-azSpan) image.azLow azSpan),
   (6, within (-azSpan) image.azHigh azSpan && within turn (image.azHigh - image.azLow) 194400000),
   (7, within 0 image.elLow quarterTurn),
   (8, image.elLow < image.elCeil && image.elCeil ≤ quarterTurn),
   (10, image.rotLow < image.rotHigh)] ++
  pairChecks 11 (image.horizon.map fun v => ((v : Nat) : Int) * 1000 ≤ image.elCeil) ++
  limitChecks 29 image.calm.az ++ limitChecks 31 image.calm.el ++ limitChecks 33 image.calm.rot ++
  limitChecks 35 image.gust.az ++ limitChecks 37 image.gust.el ++ limitChecks 39 image.gust.rot ++
  axisChecks 41 (fun a => ceilingOk image.periodMs (image.rateCeiling.get a) (image.gust.get a).amax) ++
  axisChecks 44 (fun a => toleranceOk (image.tolerance.get a) (image.brakeMs.get a)) ++
  axisChecks 47 (fun a => followOk (image.followLimit.get a)) ++
  [(50, image.settleHoldMs ≤ 10000 && image.followGraceMs ≤ 1000),
   (51, 1000 ≤ image.settleTimeoutMs && image.settleTimeoutMs ≤ 600000),
   (52, within (-halfTurn) image.guiderAngle (halfTurn - 1)),
   (53, image.stepLimit ≤ 50000 && image.guideRange ≤ 60000),
   (54, image.offsetRange ≤ 3600000 && 1 ≤ image.ringDepth && image.ringDepth ≤ 8)] ++
  pairChecks 55 (image.coefficients.map fun c => within (-512) c 512) ++
  [(59, within image.elLow image.stowElevation image.elCeil)]

/-- The image has every value the checks admit. -/
def imageOk (image : SiteImage) : Bool := (fieldChecks image).all (·.2)

/-- What the checks over a whole image find (R190 checks 2 and 3). -/
inductive Verdict where
  | pass (image : SiteImage)
  | fail (word : Nat)
deriving DecidableEq, Repr

/-- The checks over L words: the sum, then the fields; the first failure names its word (R190). -/
def checkImage (words : List Word) : Verdict :=
  if sumOk words then
    match (fieldChecks (parseImage words)).find? fun c => !c.2 with
    | none => .pass (parseImage words)
    | some c => .fail c.1
  else .fail (words.length - 1)

/-! ## Into force (R193) -/

/-- A port's image rights (R170). -/
def imageRights (p : PortSettings) : Rights := ⟨p.plan, p.guide, p.offset⟩

/-- The image's routing and thresholds take effect and the lines are judged (R181). -/
def imageNotices (image : SiteImage) (n : Notices) : Notices :=
  judgeAttention
    { n with
      routing := image.routing
      ports := PerPort.build fun p => { n.ports.get p with threshold := (image.ports.get p).threshold } }

/-- The entry to VALID (R193): the image in force and all that takes effect with it. The port rates change at their own
event (R163). DESIGN CHOICE (log 45): the next expected index is L after a memory read too. -/
def becomeValid (words : List Word) (image : SiteImage) (s : State) : State :=
  let s1 := s.setLoader
    { s.loader with
      state := .valid image
      words := words
      nextIndex := words.length
      length := some words.length
      fault := .none
      reading := false }
  let s2 := s1.setTime { s1.time with nextInstant := realign s1.period s1.time }
  let s3 := s2.setLink (PerPort.build fun p => { s2.link.get p with rights := imageRights (image.ports.get p) })
  let s4 := s3.setNotice (imageNotices image s3.notice)
  let s5 := s4.setDrive (PerAxis.build fun a => { s4.drive.get a with cutMask := image.cutMask.get a })
  judgeStow (s5.setCorr { s5.corr with ring := zeroRing image.ringDepth })

/-- CONFIG_FAULT (R190, R191): the next expected index is 0 (R192). -/
def configFault (fault : FaultRecord) (words : List Word) (length : Option Nat) (s : State) : State :=
  s.setLoader
    { s.loader with
      state := .configFault
      words := words
      nextIndex := 0
      length := length
      fault := fault
      reading := false }

/-- All L words are held: the checks run (R190). -/
def runChecks (words : List Word) (s : State) : State :=
  match checkImage words with
  | .pass image => becomeValid words image s
  | .fail i => configFault (.image i) words (some words.length) s

/-! ## The memory read (R191) -/

/-- Whole words of a byte sequence, high byte first (R189). -/
def memoryWords (bytes : List Byte) : List Word := wordsAt bytes 0 (bytes.length / 4)

/-- The read ends with what the memory acknowledged (R191; log 28): a transfer not acknowledged, L staying known once a good
header was read (R188; log 32), a failed header, or all L words. DESIGN CHOICE (log 28): L is unknown until this end, though
R190 judges the header as soon as word 0 is received. -/
def endRead (bytes : List Byte) (s : State) : State :=
  match memoryWords bytes with
  | [] => configFault .noMemory [] none s
  | header :: rest =>
    if headerOk header then
      let L := imageLength header
      if (header :: rest).length < L then configFault .noMemory [] (some L) s
      else runChecks ((header :: rest).take L) s
    else configFault (.image 0) [] none s

end Sys2Proof.Machine
end

