-- ==== Sys2Proof/Machine/StartUp.lean ====
section
/-! DEFINITION. StartUp: the commands of the site loader (11): power-on and the RESET line, the end of the memory read,
SITE_WORDS and RESTART. -/

namespace Sys2Proof.Machine

/-! ## Power-on and RESET (R188) -/

/-- Power-on (R188): every block afresh, LOADSEL latched. -/
def execPowerOn (loadsel : Bool) (s : State) : Host.Outcome State Fault Refusal :=
  .next (.fresh loadsel { s.lines with loadsel := loadsel } s.pending)

/-- RESET is asserted (R188): the part holds its power-on values; no read of the memory runs. -/
def execResetAssert (s : State) : Host.Outcome State Fault Refusal :=
  let held := State.fresh s.loader.latch { s.lines with reset := true } s.pending
  .next (held.setLoader { held.loader with reading := false })

/-- RESET falls (R188): the part starts afresh and latches LOADSEL. -/
def execResetFall (loadsel : Bool) (s : State) : Host.Outcome State Fault Refusal :=
  .next (.fresh loadsel { s.lines with reset := false, loadsel := loadsel } s.pending)

/-! ## The memory read (R191) -/

/-- A read of the configuration memory is running, in LOADING (R191). -/
def readRunning (s : State) : Bool :=
  match s.loader.state with
  | .loading => s.loader.reading
  | .configFault => false
  | .valid _ => false

/-- The read of the configuration memory ends (R191); with no read running nothing does (log 3). -/
def execConfigMemoryReadEnd (bytes : List Byte) (s : State) : Host.Outcome State Fault Refusal :=
  .next (if !s.heldInReset && readRunning s then endRead bytes s else s)

/-! ## SITE_WORDS (R192) -/

/-- What every reply to SITE_WORDS carries (R192). -/
def siteReply (s : State) (echo : Option (Nat × List Word)) : ReplyData :=
  .site echo s.loadName s.loader.nextIndex s.loader.length s.loader.fault

/-- A refusal of SITE_WORDS, which carries data (R192). -/
def refuseSite (s : State) (code : Code) : Answer := ⟨s, code, siteReply s none⟩

/-- SITE_WORDS is judged: the load state is not VALID and no memory read is running (R192; log 16). -/
def siteOpen (s : State) : Bool :=
  match s.loader.state with
  | .loading => !s.loader.reading
  | .configFault => true
  | .valid _ => false

/-- The words held that a judged request adds to: discarded in CONFIG_FAULT (R192). -/
def heldWords (l : Loader) : List Word :=
  match l.state with
  | .loading => l.words
  | .configFault => []
  | .valid _ => l.words

/-- L as a judged request finds it: unknown in CONFIG_FAULT, where the held words are discarded (R192). -/
def heldLength (l : Loader) : Option Nat :=
  match l.state with
  | .loading => l.length
  | .configFault => none
  | .valid _ => l.length

/-- The words run past index L − 1 (R192). -/
def runsPast (length : Option Nat) (stop : Nat) : Bool :=
  match length with
  | none => false
  | some l => l < stop

/-- Words stored in LOADING (R192). -/
def keepWords (words : List Word) (length : Option Nat) (s : State) : State :=
  s.setLoader
    { s.loader with state := .loading, words := words, nextIndex := words.length, length := length, fault := .none }

/-- An accepted request that leaves words to come, or that stores word L − 1 (R192). -/
def storeWords (start : Nat) (new words : List Word) (length : Option Nat) (s : State) : Answer :=
  if length = some words.length then
    let s1 := runChecks words s
    ⟨s1, if s1.isValid then .ok else .imageBad, siteReply s1 none⟩
  else
    let s1 := keepWords words length s
    accept s1 (siteReply s1 (some (start, new)))

/-- R192. -/
def siteWordsBody (start : Half) (new : List Word) (s : State) : Answer :=
  let first := start.toNat
  if !siteOpen s then refuseSite s .wrongState
  else if first ≠ s.loader.nextIndex ∨ runsPast (heldLength s.loader) (first + new.length) then refuseSite s .badValue
  else if first = 0 then
    if headerOk (wordOf new 0) then storeWords 0 new new (some (imageLength (wordOf new 0))) s
    else refuseSite (configFault (.image 0) [] none s) .imageBad
  else storeWords first new (heldWords s.loader ++ new) (heldLength s.loader) s

/-- SITE_WORDS (R192). -/
def execSiteWords (port : Port) (tag : Byte) (start : Half) (words : List Word) (s : State) :
    Host.Outcome State Fault Refusal :=
  .next (serve (.siteWords port tag start words) (siteWordsBody start words) s)

/-! ## RESTART (R194) -/

/-- The trajectory unit's RESTART values on one axis (R89, R105). -/
def restartAxis (t : TrajectoryAxis) : TrajectoryAxis :=
  { t with base := t.demand, offset := 0, guide := 0, e := 0, w := 0, demandStep := 0 }

/-- The trajectory unit's RESTART values (R89, R105). -/
def restartTrajectory (t : Trajectory) : Trajectory :=
  { t with axes := t.axes.map restartAxis, source := .freeze, slot := none, adoptedSerial := 0, arrivalSet := false }

/-- A port of the notice unit at RESTART (R187). -/
def emptyNotices (q : NoticePort) : NoticePort := { q with waiting := [] }

/-- Step 1 of RESTART: each block's RESTART values (R26, R54, R67, R89, R105, R128, R149, R162); the links keep theirs
(R179). -/
def restartBlocks (s : State) : State :=
  { s with
    list := { ListStore.reset with nextEntry := s.list.nextEntry }
    ctrl := .reset
    time := { s.time with pendingSet := none }
    traj := restartTrajectory s.traj
    corr := ⟨zeroRing s.image.ringDepth, 0, 0, none, []⟩
    drive := s.drive.map fun d => { d with brakeTimer := none }
    capture := { s.capture with fifo := [], collection := none } }

/-- Step 2 of RESTART: every pending set emptied, every line judged (R187). -/
def restartNotices (n : Notices) : Notices :=
  judgeAttention { n with ports := PerPort.build fun p => emptyNotices (n.ports.get p) }

/-- RESTART (R194), steps 1 to 3. -/
def restartPart (s : State) : State :=
  let s1 := restartBlocks s
  judgeStow (s1.setNotice (restartNotices s1.notice))

/-- R194. -/
def restartBody (s : State) : Answer :=
  if allAxes.any fun a => (s.drive.get a).state.canCut then refuse s .wrongState
  else
    let s1 := restartPart s
    accept s1 (.restarted s1.ctrl.listState (s1.drive.map (·.state)))

/-- RESTART (R194). -/
def execRestart (port : Port) (tag : Byte) (s : State) : Host.Outcome State Fault Refusal :=
  .next (serve (.restart port tag) restartBody s)

end Sys2Proof.Machine
end

