-- ==== Sys2Proof/Machine/Dispatch.lean ====
section
/-! DEFINITION. Dispatch: the meaning of each command, one arm per row of spec/opcode_table.json. -/

namespace Sys2Proof.Machine

def exec (i : Instr) (s : State) : Host.Outcome State Fault Refusal :=
  match i with
  | .powerOn loadsel => Sys2Proof.Machine.execPowerOn loadsel s
  | .resetAssert => Sys2Proof.Machine.execResetAssert s
  | .resetFall loadsel => Sys2Proof.Machine.execResetFall loadsel s
  | .configMemoryReadEnd bytes => Sys2Proof.Machine.execConfigMemoryReadEnd bytes s
  | .portRateChange port => Sys2Proof.Machine.execPortRateChange port s
  | .linkCharacter port char => Sys2Proof.Machine.execLinkCharacter port char s
  | .linkGapExpiry port => Sys2Proof.Machine.execLinkGapExpiry port s
  | .replySent port => Sys2Proof.Machine.execReplySent port s
  | .addTarget port tag header nodes => Sys2Proof.Machine.execAddTarget port tag header nodes s
  | .appendNodes port tag id nodes => Sys2Proof.Machine.execAppendNodes port tag id nodes s
  | .deleteTarget port tag id => Sys2Proof.Machine.execDeleteTarget port tag id s
  | .readList port tag position => Sys2Proof.Machine.execReadList port tag position s
  | .readOutcomes port tag after => Sys2Proof.Machine.execReadOutcomes port tag after s
  | .run port tag => Sys2Proof.Machine.execRun port tag s
  | .hold port tag => Sys2Proof.Machine.execHold port tag s
  | .stop port tag => Sys2Proof.Machine.execStop port tag s
  | .abort port tag id => Sys2Proof.Machine.execAbort port tag id s
  | .release port tag id => Sys2Proof.Machine.execRelease port tag id s
  | .readSequence port tag => Sys2Proof.Machine.execReadSequence port tag s
  | .setTime port tag time => Sys2Proof.Machine.execSetTime port tag time s
  | .readTime port tag => Sys2Proof.Machine.execReadTime port tag s
  | .readPointing port tag => Sys2Proof.Machine.execReadPointing port tag s
  | .readPredict port tag lead => Sys2Proof.Machine.execReadPredict port tag lead s
  | .forceGust port tag => Sys2Proof.Machine.execForceGust port tag s
  | .clearForce port tag => Sys2Proof.Machine.execClearForce port tag s
  | .guideSample port tag dx dy => Sys2Proof.Machine.execGuideSample port tag dx dy s
  | .guideReset port tag => Sys2Proof.Machine.execGuideReset port tag s
  | .pushOffset port tag dx dy drot => Sys2Proof.Machine.execPushOffset port tag dx dy drot s
  | .popOffset port tag => Sys2Proof.Machine.execPopOffset port tag s
  | .clearOffsets port tag => Sys2Proof.Machine.execClearOffsets port tag s
  | .readCorrections port tag => Sys2Proof.Machine.execReadCorrections port tag s
  | .enableAxes port tag mask => Sys2Proof.Machine.execEnableAxes port tag mask s
  | .disableAxes port tag mask => Sys2Proof.Machine.execDisableAxes port tag mask s
  | .setCutMask port tag axis mask => Sys2Proof.Machine.execSetCutMask port tag axis mask s
  | .readAxes port tag => Sys2Proof.Machine.execReadAxes port tag s
  | .readCaptures port tag => Sys2Proof.Machine.execReadCaptures port tag s
  | .readStatus port tag => Sys2Proof.Machine.execReadStatus port tag s
  | .readNotices port tag => Sys2Proof.Machine.execReadNotices port tag s
  | .setRouting port tag source mask level => Sys2Proof.Machine.execSetRouting port tag source mask level s
  | .setThreshold port tag threshold => Sys2Proof.Machine.execSetThreshold port tag threshold s
  | .siteWords port tag start words => Sys2Proof.Machine.execSiteWords port tag start words s
  | .restart port tag => Sys2Proof.Machine.execRestart port tag s
  | .ppsEdge => Sys2Proof.Machine.execPpsEdge s
  | .ppsHoldEnd => Sys2Proof.Machine.execPpsHoldEnd s
  | .pulseWatchExpiry => Sys2Proof.Machine.execPulseWatchExpiry s
  | .clockAtLargestValue => Sys2Proof.Machine.execClockAtLargestValue s
  | .demandInstant gust => Sys2Proof.Machine.execDemandInstant gust s
  | .driveReply axis chars => Sys2Proof.Machine.execDriveReply axis chars s
  | .graceTimerExpiry axis => Sys2Proof.Machine.execGraceTimerExpiry axis s
  | .cutSourceRise line level => Sys2Proof.Machine.execCutSourceRise line level s
  | .brakeTimerExpiryReleasing axis => Sys2Proof.Machine.execBrakeTimerExpiryReleasing axis s
  | .brakeTimerExpirySetting axis => Sys2Proof.Machine.execBrakeTimerExpirySetting axis s
  | .startWatchExpiry id => Sys2Proof.Machine.execStartWatchExpiry id s
  | .recordExpiry id => Sys2Proof.Machine.execRecordExpiry id s
  | .settleHoldExpiry => Sys2Proof.Machine.execSettleHoldExpiry s
  | .settleTimeoutExpiry => Sys2Proof.Machine.execSettleTimeoutExpiry s
  | .dwellExpiry => Sys2Proof.Machine.execDwellExpiry s
  | .stowRise => Sys2Proof.Machine.execStowRise s
  | .stowFall => Sys2Proof.Machine.execStowFall s
  | .domeReadyChange level => Sys2Proof.Machine.execDomeReadyChange level s
  | .shutterChange level => Sys2Proof.Machine.execShutterChange level s
  | .shutterCandidateAccepted => Sys2Proof.Machine.execShutterCandidateAccepted s

end Sys2Proof.Machine
end

