-- ==== Sys2Proof/Machine/Idle.lean ====
section
/-! DEFINITION. Idle: what the part does of itself on an empty queue: the commands that have come due, or the passing of a
microsecond (log 1, 2). -/

namespace Sys2Proof.Machine

/-! ## What has come due (log 2) -/

/-- A command when its condition holds. -/
def whenDue (due : Bool) (i : Instr) : List Instr := if due then [i] else []

/-- The commands of the time base that are due. -/
def dueTime (s : State) : List Instr :=
  whenDue (largestDue s.time) .clockAtLargestValue ++ whenDue (ppsHoldDue s) .ppsHoldEnd ++
  whenDue (pulseWatchDue s) .pulseWatchExpiry

/-- The requests, gaps and rate changes of the ports that are due. -/
def dueLink (s : State) : List Instr :=
  (allPorts.flatMap fun p => (waitingRequest s p).toList) ++
  (allPorts.flatMap fun p => whenDue ((s.link.get p).receiver.gapOver s.time.elapsed) (.linkGapExpiry p)) ++
  (allPorts.flatMap fun p => whenDue (rateChangeDue p s) (.portRateChange p))

/-- The record expiries and start watches that are due, in list order. -/
def dueList (s : State) : List Instr :=
  (s.list.records.filter (expiryDue s.time.clock)).map (fun r => .recordExpiry (BitVec.ofNat 16 r.id)) ++
  (s.ctrl.watches.filter (watchDue s.time.clock)).map fun w => .startWatchExpiry (BitVec.ofNat 16 w.id)

/-- The timers of the active target that are due. -/
def dueTarget (s : State) : List Instr :=
  whenDue (settleHoldDue s) .settleHoldExpiry ++ whenDue (settleTimeoutDue s) .settleTimeoutExpiry ++
  whenDue (dwellDue s) .dwellExpiry

/-- The timers of the axes that are due. -/
def dueAxes (s : State) : List Instr :=
  allAxes.flatMap fun a =>
    whenDue (releasingDue a s) (.brakeTimerExpiryReleasing a) ++ whenDue (settingDue a s) (.brakeTimerExpirySetting a) ++
    whenDue (graceDue a s) (.graceTimerExpiry a)

/-- A SHUTTER candidate is due. -/
def shutterDue (s : State) : Bool :=
  match s.capture.candidate with
  | none => false
  | some c => candidateReady s c

/-- Everything that has come due of itself, in the order of log 2. -/
def dueCommands (s : State) : List Instr :=
  dueTime s ++ dueLink s ++ dueList s ++ dueTarget s ++ dueAxes s ++
  whenDue (shutterDue s) .shutterCandidateAccepted ++ whenDue s.instantDue (.demandInstant s.lines.gust)

/-! ## Idling (log 1) -/

/-- A microsecond passes (R55, R57); the SHUTTER filter sees the level the line shows (R150; log 21). -/
def tick (s : State) : State :=
  let s1 := judgeLevel s.lines.shutter s
  s1.setTime (countMicrosecond s1.time)

/-- The empty queue: what is due is queued; when nothing is, a microsecond passes. While RESET is asserted the part holds
its values (R188). -/
def idle (s : State) : State :=
  if s.heldInReset then s
  else
    match dueCommands s with
    | [] => tick s
    | i :: rest => s.setPending (i :: rest)

end Sys2Proof.Machine
end

