-- ==== Sys2Proof/Safety.lean ====
section
/-! DEFINITION. Safety: the vocabulary of the statements: a request that its port takes, and the invariants that the rules give
the state. -/

namespace Sys2Proof.Machine

/-! ## Requests -/

/-- The frame of a request kind with its tag and payload. -/
def requestFrame (k : RequestKind) (tag : Byte) (payload : List Byte) : Frame := ⟨k.number, tag, payload⟩

/-- The port takes a request and no other waits before it: a buffer is free, and each request held is carried out, its reply
not yet sent (R167, R168). -/
abbrev Takes (q : LinkPort) : Prop := oldestWaiting q.buffers = none ∧ q.buffers.length < bufferCapacity

/-- A request of the kind reaches its owning block at once: RESET is low, the port takes it, and the checks of R169 pass. -/
abbrev Served (k : RequestKind) (p : Port) (s : State) : Prop :=
  s.lines.reset = false ∧ Takes (s.link.get p) ∧ (needsRight k = true → s.isValid = true) ∧
  mayRequest (s.link.get p).rights p k = true

/-- A request that its port takes while the load state is not VALID (R169 order 3). -/
abbrev Unconfigured (p : Port) (s : State) : Prop :=
  s.lines.reset = false ∧ Takes (s.link.get p) ∧ s.isValid = false

/-- The state with a frame taken into a receive buffer of its port, not yet carried out (R167, R168). -/
def received (p : Port) (f : Frame) (s : State) : State :=
  s.modPort p fun q => { q with buffers := q.buffers ++ [⟨f, false⟩] }

/-- The state `t` an owning block leaves, with the reply formed and a refusal recorded against the state found (R168,
R172). -/
def answered (found : State) (p : Port) (f : Frame) (code : Code) (data : ReplyData) (t : State) : State :=
  t.modPort p (answerPort found f code data)

/-- The request refused by its owning block: nothing but its own port changes (R168, R172). -/
def refusedBy (k : RequestKind) (p : Port) (tag : Byte) (payload : List Byte) (code : Code) (s : State) :
    Host.Outcome State Fault Refusal :=
  let f := requestFrame k tag payload
  let s1 := received p f s
  .next (answered s1 p f code .none s1)

/-- The request accepted with its reply data, where `effect` is what its block does to the rest of the part (R168). -/
def acceptedBy (k : RequestKind) (p : Port) (tag : Byte) (payload : List Byte) (data : ReplyData) (effect : State → State)
    (s : State) : Host.Outcome State Fault Refusal :=
  let f := requestFrame k tag payload
  let s1 := received p f s
  .next (answered s1 p f .ok data (effect s1))

/-- Every block but the links, and the queue, stands as it did. -/
def SameButLink (s t : State) : Prop := t = { s with link := t.link }

/-! ## Received characters (R165) -/

/-- Characters with the elapsed count of each, taken in order: the receiver they leave and the frames they complete. -/
def feed : List (Nat × Byte) → Receiver → Receiver × List Frame
  | [], r => (r, [])
  | (now, b) :: rest, r =>
    let x := receive now b r
    let y := feed rest x.receiver
    (y.1, x.frame.toList ++ y.2)

/-- No gap above 2,000 µs between consecutive characters (R165). -/
def noGaps : List Nat → Prop
  | [] => True
  | [_] => True
  | x :: y :: rest => x ≤ y ∧ y - x ≤ gapLimit ∧ noGaps (y :: rest)

/-! ## The generator over several instants -/

/-- The step rule taken at so many instants, under limits that do not change (R95). -/
def steps (a v : Nat) : Nat → Motion → Motion
  | 0, m => m
  | n + 1, m => steps a v n (stepRule a v m)

/-! ## A demand instant -/

/-- Steps 6 and 7 on an axis (R70, R80): an ON or STOPPING axis takes the step rule and its demand is its source reference plus
e; a CUT axis follows its last actual (kept when absent, log 24); the others stand. The demand step is what the demand moved
(log 14). -/
def issuedAt (l : AxisLimits) (d : DriveAxis) (x : TrajectoryAxis) : TrajectoryAxis :=
  let issue := fun (e w demand : Int) =>
    { x with e := e, w := w, demand := demand, demandStep := demand - x.stepFrom, issued := demand, stepFrom := demand }
  match d.state with
  | .on | .stopping _ =>
    let m := stepRule l.amax l.vmax ⟨x.e, x.w⟩
    issue m.e m.w (x.base + x.offset + x.guide + m.e)
  | .cut => issue 0 0 (d.lastActual.getD x.demand)
  | .off | .releasing => issue x.e x.w x.demand

/-- The frame an axis is sent for the instant `now` (R136). -/
def framedAt (now : Nat) (x : TrajectoryAxis) (d : DriveAxis) : DriveAxis :=
  match d.state with
  | .off =>
    { d with
      nextTag := d.nextTag + 1, openFrame := some ⟨d.nextTag, false, 0, now⟩
      sent := frameBytes (positionRead d.nextTag d.enable) }
  | .releasing | .on | .stopping _ | .cut =>
    { d with
      nextTag := d.nextTag + 1, openFrame := some ⟨d.nextTag, true, x.demand, now⟩
      sent := frameBytes (demandFrame d.nextTag x.demand x.demandStep d.enable) }

/-- The profile an instant selects (R92). -/
def instantProfile (gust : Bool) (s : State) : Profile := if s.traj.forceGust = true ∨ gust = true then .gust else .calm

/-- The limits of that profile (R91). -/
def instantLimits (gust : Bool) (s : State) (a : Axis) : AxisLimits :=
  match instantProfile gust s with
  | .calm => s.image.calm.get a
  | .gust => s.image.gust.get a

/-- The state an instant leaves before its reports, when steps 2 to 5 have made the list and the trajectory unit what they
are here and no axis is cut: the level and the timer moved on (log 10, 11), the demands issued, the frames sent once VALID. -/
def afterInstant (gust : Bool) (list : ListStore) (traj : Trajectory) (s : State) : State :=
  let now := instantTime s.time
  let axes := PerAxis.build fun a => issuedAt (instantLimits gust s a) (s.drive.get a) (traj.axes.get a)
  { s with
    lines := { s.lines with gust := gust }
    time := { s.time with nextInstant := instantAfter (s.image.periodMs * 1000) s.time }
    list := list
    traj := { traj with axes := axes, lastInstant := some now, profile := instantProfile gust s }
    drive := if s.isValid = true then PerAxis.build fun a => framedAt now (axes.get a) (s.drive.get a) else s.drive }

/-- The axis has e and w 0 (R102, R103). -/
abbrev Rests (s : State) (a : Axis) : Prop := (s.traj.axes.get a).e = 0 ∧ (s.traj.axes.get a).w = 0

/-- The state with the arrival watch spent (R102). -/
def watchSpent (s : State) : State := { s with traj := { s.traj with arrivalSet := false } }

/-- A freeze on an axis (R77): an ON axis is given its stop point, a held one stops at its demand, STOPPING keeps what R82 gave
it. -/
def frozenAt (amax : Nat) (st : AxisState) (x : TrajectoryAxis) : TrajectoryAxis :=
  match st with
  | .on =>
    let travel := signOf x.w * (brakingDistance amax x.w.natAbs : Int)
    { x with base := x.demand + travel - x.offset - x.guide, e := -travel }
  | .off | .releasing | .cut => { x with base := x.demand - x.offset - x.guide }
  | .stopping _ => x

/-- The trajectory unit frozen at an instant (R77). -/
def frozenTraj (gust : Bool) (s : State) : Trajectory :=
  { s.traj with
    axes := PerAxis.build fun a => frozenAt (instantLimits gust s a).amax (s.drive.get a).state (s.traj.axes.get a)
    source := .freeze
    arrivalSet := true }

/-- The track context after nodes are passed, each placed from the one before (R72). -/
def passedBy (nodes : List TrackNode) (c : TrackContext) : TrackContext :=
  nodes.foldl (fun c n => { c with node := n, unwrapped := c.unwrapped + reduceHalf (n.pos.az - c.node.pos.az) }) c

/-- The nodes at or before a time, from the first (R73, R76). -/
def dueNodes (now : Nat) (nodes : List TrackNode) : List TrackNode := nodes.takeWhile fun n => decide (n.time ≤ now)

/-- The list store after so many consumption reports for an id (R10). -/
def consumed (id count : Nat) (l : ListStore) : ListStore :=
  if count = 0 then l
  else
    { l with
      records := l.records.map fun q => if q.id = id then { q with nodes := q.nodes.drop count } else q
      changeCount := (l.changeCount + count) % 65536 }

/-- The track value of an axis (R71). -/
def valueAt (c : TrackContext) (now : Nat) (a : Axis) : Int :=
  (match a with
    | .az => c.unwrapped
    | .el => c.node.pos.el
    | .rot => c.node.pos.rot) +
  roundDiv (c.node.rate.get a * ((now : Int) - (c.node.time : Int))) 256000000

/-- The source references of the axes are outside the limits (R68, R84, R86). -/
def Outside (image : SiteImage) (axes : PerAxis TrajectoryAxis) : Prop :=
  let reference := fun a => (axes.get a).base + (axes.get a).offset + (axes.get a).guide
  reference .az < image.azLow ∨ image.azHigh < reference .az ∨ reference .el < image.elLow ∨
  reference .el < (image.horizon.getD (reference .az % 129600000 / 3600000).toNat 0 : Nat) * (1000 : Int) ∨
  image.elCeil < reference .el ∨ reference .rot < image.rotLow ∨ image.rotHigh < reference .rot

/-- A demand instant is due, RESET is low, and each axis's frame of the instant before is closed. -/
abbrev InstantDue (s : State) : Prop :=
  s.lines.reset = false ∧ s.instantDue = true ∧ ∀ a, (s.drive.get a).openFrame = none

/-- The instant answers what steps 2 to 5 and the axes' moves make of the state, the arrival watch spent when every axis then
rests, where no STOPPING axis comes to rest and an arrival report is not for a target in APPROACH (R70, R102, R103). -/
def InstantLeaves (gust : Bool) (list : ListStore) (traj : Trajectory) (s : State) : Prop :=
  let u := afterInstant gust list traj s
  (∀ a, (s.drive.get a).state = .stopping .braking → ¬Rests u a) →
  (traj.arrivalSet = false ∨ (∃ a, ¬Rests u a) → exec (.demandInstant gust) s = .next u) ∧
  (traj.arrivalSet = true → (∀ a, Rests u a) → traj.adoptedSerial ≠ s.ctrl.serial ∨ s.ctrl.phase ≠ .approach →
    exec (.demandInstant gust) s = .next (watchSpent u))

/-- The axes an instant leaves under TRACK as the nodes due move the track from `c` to `c'`: the base at the new value, the
residual of an ON axis moved by the old value less the new (R71, R73, R82). -/
def followedAxes (now : Nat) (c c' : TrackContext) (s : State) : PerAxis TrajectoryAxis :=
  PerAxis.build fun a =>
    let x := s.traj.axes.get a
    match (s.drive.get a).state with
    | .on => { x with base := valueAt c' now a, e := x.e + (valueAt c now a - valueAt c' now a) }
    | .off | .releasing | .cut => { x with base := valueAt c' now a }
    | .stopping _ => x

/-- The axes an instant leaves as it adopts the track `c`: the base at the track value, e of an ON axis at what is left to it
(R76, R82). -/
def joinedAxes (now : Nat) (c : TrackContext) (s : State) : PerAxis TrajectoryAxis :=
  PerAxis.build fun a =>
    let x := s.traj.axes.get a
    match (s.drive.get a).state with
    | .on => { x with base := valueAt c now a, e := x.demand - (valueAt c now a + x.offset + x.guide) }
    | .off | .releasing | .cut => { x with base := valueAt c now a }
    | .stopping _ => x

/-- An axis whose braking ends at rest: its brake is engaged and the brake interval runs, or it is OFF at once where that is 0
(R103, R134; log 23). -/
def restedAxis (brakeMs clock : Nat) (d : DriveAxis) : DriveAxis :=
  if brakeMs = 0 then
    { d with state := .off, enable := false, brake := false, brakeTimer := none, grace := none, following := false }
  else { d with state := .stopping .setting, brake := false, brakeTimer := some (clock + brakeMs * 1000) }

/-- The state `v` with the at-rest reports of the moves that left `u` (R103). -/
def restReported (u v : State) : State :=
  { v with drive := PerAxis.build fun a =>
      let d := v.drive.get a
      if d.state = .stopping .braking ∧ Rests u a then restedAxis (v.image.brakeMs.get a) v.time.clock d else d }

/-- The last tracking errors and DOME_READY meet the settle condition of the target (R36). -/
def Near (s : State) : Prop :=
  (∀ a, ∃ x, s.ctrl.lastError.get a = some x ∧ x.natAbs ≤ s.image.tolerance.get a) ∧
  (s.ctrl.options.domeWait = true → s.lines.domeReady = true)

/-- The target moved from APPROACH to SETTLE, its hold timer set to expire at a time or stopped (R35, R36). -/
def settling (hold : Option Nat) (s : State) : State :=
  { s with ctrl := { s.ctrl with phase := .settle, settleHold := hold } }

/-- The instant answers what steps 2 to 5 and the axes' moves make of the state, with its at-rest and arrival reports: none
while the watch is spent or an axis still moves; otherwise the watch is spent, and a report under the latest serial takes a target
in APPROACH to SETTLE, whose hold timer starts when the condition holds, and is over at once with a hold time of 0; any other
report is discarded (R35, R36, R102, R103). -/
def InstantReports (gust : Bool) (list : ListStore) (traj : Trajectory) (s : State) : Prop :=
  let moved := afterInstant gust list traj s
  let u := restReported moved moved
  (traj.arrivalSet = false ∨ (∃ a, ¬Rests moved a) → exec (.demandInstant gust) s = .next u) ∧
  (traj.arrivalSet = true → (∀ a, Rests moved a) →
    (traj.adoptedSerial ≠ s.ctrl.serial ∨ s.ctrl.phase ≠ .approach →
      exec (.demandInstant gust) s = .next (watchSpent u)) ∧
    (traj.adoptedSerial = s.ctrl.serial → s.ctrl.phase = .approach → s.ctrl.settleHold = none →
      let v := watchSpent u
      (¬Near s → exec (.demandInstant gust) s = .next (settling none v)) ∧
      (Near s → 0 < s.image.settleHoldMs →
        exec (.demandInstant gust) s = .next (settling (some (s.time.clock + s.image.settleHoldMs * 1000)) v)) ∧
      (Near s → s.image.settleHoldMs = 0 →
        exec (.demandInstant gust) s = exec .settleHoldExpiry (settling (some s.time.clock) v))))

/-- The value at a place of a payload. -/
def Field (payload : List Byte) (place : Nat) (bytes : List Byte) : Prop := (payload.drop place).take bytes.length = bytes

/-! ## Invariants -/

/-- Enable and brake outputs of an axis state (R130). -/
def outputsOf : AxisState → Bool × Bool
  | .off => (false, false)
  | .releasing => (true, true)
  | .on => (true, true)
  | .stopping .braking => (true, true)
  | .stopping .setting => (true, false)
  | .cut => (false, false)

/-- The outputs of every axis are those of its state (R130). -/
def OutputsMatch (s : State) : Prop :=
  ∀ a : Axis, ((s.drive.get a).enable, (s.drive.get a).brake) = outputsOf (s.drive.get a).state

/-- An axis the drive controller holds has e and w 0 (R80, R104). -/
def HeldAtRest (s : State) : Prop :=
  ∀ a : Axis, s.driven a = false → (s.traj.axes.get a).e = 0 ∧ (s.traj.axes.get a).w = 0

/-- The demand of a driven axis is its source reference plus its residual (R69). -/
def DemandAgrees (s : State) : Prop :=
  ∀ a : Axis, s.driven a = true →
    (s.traj.axes.get a).demand = (s.traj.axes.get a).sourceReference + (s.traj.axes.get a).e

/-- The offset terms are the stack totals and the guide terms the accumulator (R68, R112, R121). -/
structure TermsAgree (s : State) : Prop where
  offset : ∀ a : Axis, (s.traj.axes.get a).offset = (stackTotals s.corr.stack).get a
  guideAz : s.traj.axes.az.guide = s.corr.gAz
  guideEl : s.traj.axes.el.guide = s.corr.gEl
  guideRot : s.traj.axes.rot.guide = 0

/-- The totals of the stack, and of what is left of it after each pop, are within a range (R121, R123). -/
def StackWithin (range : Nat) : List OffsetEntry → Prop
  | [] => True
  | x :: rest => totalsInRange range (stackTotals (x :: rest)) = true ∧ StackWithin range rest

/-- Once VALID the ring has N pairs, G is within the guide range and the stack within its depth and the offset range
(R112, R117, R121); before VALID G is 0 and the stack empty (R128). -/
def CorrectionsBounded (s : State) : Prop :=
  match s.image? with
  | none => s.corr.gAz = 0 ∧ s.corr.gEl = 0 ∧ s.corr.stack = []
  | some image =>
    s.corr.ring.length = image.ringDepth ∧ s.corr.gAz.natAbs ≤ image.guideRange ∧
    s.corr.gEl.natAbs ≤ image.guideRange ∧ s.corr.stack.length ≤ stackCapacity ∧
    StackWithin image.offsetRange s.corr.stack

/-- A record as R1 to R4 have it. -/
structure RecordSound (r : TargetRecord) : Prop where
  id : r.id ≠ 0
  count : 1 ≤ r.nodes.length ∧ r.nodes.length ≤ recordCapacity
  order : inOrder r.nodes = true
  waiting : r.status = .waiting → r.late = false ∧ r.actualStart = none ∧ r.firstTrack = none ∧ r.guideCount = 0

/-- The night list, its pool and its log within their capacities, in list order, with no id twice; the log in order of entry
serial, as plain numbers; the serials and the change count in their ranges (R4 to R8, R23, R24). -/
structure ListSound (l : ListStore) : Prop where
  records : ∀ r ∈ l.records, RecordSound r
  length : l.records.length ≤ listCapacity
  pool : nodesHeld l.records ≤ poolCapacity
  ids : (l.records.map (·.id)).Nodup
  ordered : l.records.Pairwise fun a b => before a b = true
  log : l.log.length ≤ logCapacity
  entries : l.log.Pairwise fun a b => a.serial ≤ b.serial
  change : l.changeCount ≤ 65535
  serial : 1 ≤ l.nextSerial ∧ l.nextSerial ≤ 4294967295
  entry : 1 ≤ l.nextEntry ∧ l.nextEntry ≤ 4294967295

/-- The phase is not NONE exactly when one record is ACTIVE, the one of the active target id (R28). -/
structure PhaseSound (s : State) : Prop where
  idle : s.ctrl.phase = .none ↔ s.ctrl.activeId = 0
  active : ∀ r ∈ s.list.records, r.status = .active ↔ r.id = s.ctrl.activeId
  present : s.ctrl.phase ≠ .none → ∃ r ∈ s.list.records, r.id = s.ctrl.activeId

/-- A start watch is kept for each WAITING record and for no other (R30). -/
def WatchesMatch (s : State) : Prop :=
  ∀ id : Nat, (∃ w ∈ s.ctrl.watches, w.id = id) ↔ ∃ r ∈ s.list.records, r.id = id ∧ r.status = .waiting

/-- The timers of the active target run in the phases that have them (R28, R38, R39). -/
structure TimersSound (c : Controller) : Prop where
  timeout : c.settleTimeout.isSome = true ↔ c.phase = .approach ∨ c.phase = .settle
  hold : c.settleHold.isSome = true → c.phase = .settle
  dwell : c.dwellTimer.isSome = true → c.phase = .settle ∨ c.phase = .track
  entry : c.trackEntry.isSome = true ↔ c.phase = .track

/-- Every attention line is as R183 has it, and every pending set lists each source once, in source order (R181). -/
def NoticesSound (n : Notices) : Prop :=
  ∀ p : Port,
    (n.ports.get p).attention = attentionWanted n.routing (n.ports.get p) ∧
    (n.ports.get p).waiting.Pairwise fun a b => noticeNumber a < noticeNumber b

/-- Carried-out requests come before those still waiting (R168). -/
def carriedFirst : List Held → Bool
  | [] => true
  | h :: rest => if h.carried then carriedFirst rest else rest.all fun x => !x.carried

/-- A port holds at most two requests, and its reply queue holds the reply of each carried-out one, in the order the requests
were taken (R167, R168). -/
structure PortSound (q : LinkPort) : Prop where
  two : q.buffers.length ≤ bufferCapacity
  first : carriedFirst q.buffers = true
  replies : (q.buffers.filter (·.carried)).map (fun h => (h.frame.kind, h.frame.tag)) =
    q.replies.map fun r => (r.kind, r.tag)

def LinksSound (s : State) : Prop := ∀ p : Port, PortSound (s.link.get p)

/-- The capture FIFO holds at most 16 records, of which at most the newest is open, and one is open only while the accepted
level is HIGH (R150, R154). -/
structure CaptureSound (c : Capture) : Prop where
  length : c.fifo.length ≤ fifoCapacity
  closed : ∀ r ∈ c.fifo.dropLast, r.isOpen = false
  level : (openRecord c.fifo).isSome = true → c.accepted = .high

/-- The clock is at most its largest value, and a pending set is a whole second that SET_TIME takes (R55, R58). -/
structure ClockSound (t : TimeBase) : Prop where
  clock : t.clock ≤ clockMax
  pending : ∀ v, t.pendingSet = some v → v ≤ setTimeMax ∧ v % second = 0

/-- Before VALID the list is in STOP with no target and no record, no axis is enabled, no frame is open, no record of an
exposure is held and no notice is pending (R171, R188). -/
structure Inert (s : State) : Prop where
  list : s.ctrl.listState = .stop ∧ s.ctrl.phase = .none ∧ s.list.records = []
  axes : ∀ a : Axis, (s.drive.get a).state = .off ∧ (s.drive.get a).openFrame = none
  rights : ∀ p : Port, (s.link.get p).rights = .observe
  captures : s.capture.fifo = []
  notices : ∀ src, routingOf s.notice.routing src = ⟨0, 0⟩
  quiet : ∀ p : Port, (s.notice.ports.get p).waiting = [] ∧ (s.notice.ports.get p).attention = false

/-- The part is inert until the load state is VALID. -/
def InertUntilValid (s : State) : Prop := s.isValid = false → Inert s

end Sys2Proof.Machine
end

