-- ==== Sys2Proof/Certificates/Slice0/Obligations.lean ====
section
/-! DEFINITION. Obligations: the statements for the provers, family by family. A request statement says what `exec` answers
for a request whose port is idle and whose link checks pass (`Served`): the whole next state, so its frame with it. -/

section Statements

open Sys2Proof Sys2Proof.Machine

/-! ## The queue, RESET and the power-on values -/

/-- The command at the front of the queue is carried out on the part with the rest of the queue. -/
def Obligations.StepRunsTheFrontCommand : Prop :=
  ∀ (c : Instr) (rest : List Instr) (s : State), s.pending = c :: rest → step s = exec c (s.setPending rest)

/-- The model's choice (log 1, log 2): on an empty queue the commands that have come due are queued; with none due a
microsecond passes, which R55 counts unless the clock is held or at its largest value. -/
def Obligations.EmptyQueueQueuesWhatIsDueOrCounts : Prop :=
  ∀ s : State, s.pending = [] →
    (s.lines.reset = true → step s = .next s) ∧
    (s.lines.reset = false → ∀ i rest, dueCommands s = i :: rest → step s = .next { s with pending := i :: rest }) ∧
    (s.lines.reset = false → dueCommands s = [] →
      ∃ k : Option Candidate,
        step s = .next
          { s with
            time := { s.time with
              elapsed := s.time.elapsed + 1
              clock := if s.time.holdEnd.isSome = true ∨ s.time.clock = clockMax then s.time.clock
                else s.time.clock + 1 }
            capture := { s.capture with candidate := k } })

/-- No command stops the part, and none touches the queue of those behind it. -/
def Obligations.EveryCommandAnswersAndKeepsTheQueue : Prop :=
  ∀ (c : Instr) (s : State), ∃ t, exec c s = .next t ∧ t.pending = s.pending

/-- Power-on and the RESET line put every block at its power-on values; power-on and the fall of RESET latch LOADSEL, and
begin the memory read with the latch at 0; while RESET is asserted the outputs and attention lines are deasserted, and no
command but the ends of the reset moves anything beyond the levels of the lines (R188; which levels the part still sees is the
model's choice, log 8, and so are the values the spec gives none for: logs 19, 27, 46). -/
def Obligations.ResetStartsAfreshAndHolds : Prop :=
  (∀ (l : Bool) (s : State),
      exec (.powerOn l) s = .next
        { State.reset with
          loader := { State.reset.loader with latch := l, reading := !l }
          lines := { s.lines with loadsel := l }
          pending := s.pending } ∧
      exec (.resetFall l) s = .next
        { State.reset with
          loader := { State.reset.loader with latch := l, reading := !l }
          lines := { s.lines with reset := false, loadsel := l }
          pending := s.pending } ∧
      ∃ t, exec .resetAssert s = .next t ∧
        t = { State.reset with
          loader := { State.reset.loader with latch := s.loader.latch, reading := false }
          lines := { s.lines with reset := true }
          pending := s.pending } ∧
        (∀ a, (t.drive.get a).enable = false ∧ (t.drive.get a).brake = false) ∧
        ∀ p, (t.notice.ports.get p).attention = false) ∧
  ∀ (c : Instr) (s : State), s.lines.reset = true → c ≠ .resetAssert → (∀ l, c ≠ .powerOn l ∧ c ≠ .resetFall l) →
    ∃ l : Lines, l.reset = true ∧ l.loadsel = s.lines.loadsel ∧ exec c s = .next { s with lines := l }

/-- The reset state has every invariant stated below. -/
def Obligations.ResetMeetsTheInvariants : Prop :=
  ListSound State.reset.list ∧ PhaseSound State.reset ∧ WatchesMatch State.reset ∧ TimersSound State.reset.ctrl ∧
  OutputsMatch State.reset ∧ HeldAtRest State.reset ∧ DemandAgrees State.reset ∧ TermsAgree State.reset ∧
  CorrectionsBounded State.reset ∧ LinksSound State.reset ∧ NoticesSound State.reset.notice ∧
  CaptureSound State.reset.capture ∧ ClockSound State.reset.time ∧ InertUntilValid State.reset

/-! ## The site loader -/

/-- A memory read that is running ends as the memory's bytes have it: NO_MEMORY when they stop short, a failed header at
index 0, and otherwise the verdict of the checks over the L words. The model's readings: bytes that stop short stand for a
transfer not acknowledged (log 28), what the words held and L are after a failed read (log 32), and the next expected index
after one that ends VALID (log 45). -/
def Obligations.MemoryReadEndsInItsVerdict : Prop :=
  ∀ (bytes : List Byte) (s : State), s.lines.reset = false → s.loader.state = .loading → s.loader.reading = true →
    let fails := fun (f : FaultRecord) (words : List Word) (length : Option Nat) =>
      (Host.Outcome.next
        { s with loader := { s.loader with
            state := .configFault, words := words, nextIndex := 0, length := length, fault := f, reading := false } } :
        Host.Outcome State Fault Refusal)
    let header := wordAt bytes 0
    let words := wordsAt bytes 0 (imageLength header)
    (bytes.length < 4 → exec (.configMemoryReadEnd bytes) s = fails .noMemory [] none) ∧
    (4 ≤ bytes.length → headerOk header = false → exec (.configMemoryReadEnd bytes) s = fails (.image 0) [] none) ∧
    (4 ≤ bytes.length → headerOk header = true → bytes.length < 4 * imageLength header →
      exec (.configMemoryReadEnd bytes) s = fails .noMemory [] (some (imageLength header))) ∧
    (headerOk header = true → 4 * imageLength header ≤ bytes.length →
      (∀ i, checkImage words = .fail i →
        exec (.configMemoryReadEnd bytes) s = fails (.image i) words (some (imageLength header))) ∧
      ∀ image, checkImage words = .pass image →
        exec (.configMemoryReadEnd bytes) s = .next (becomeValid words image s))

/-- SITE_WORDS on port 0, judged in the order of R192. Log 16: with a memory read running the refusal is WRONG_STATE; log 32:
what the words held and L are after a failed image; log 38: the reply to the request that completes the image and passes carries
no echo. -/
def Obligations.SiteWordsAreJudgedInOrder : Prop :=
  ∀ (p : Port) (tag : Byte) (start : Half) (new : List Word) (s : State), Served .siteWords p s → 1 ≤ new.length →
    new.length ≤ 16 →
    let f := requestFrame .siteWords tag (bytes2 start ++ new.flatMap bytes4)
    let s1 := received p f s
    let answers := fun (code : Code) (echo : Option (Nat × List Word)) (t : State) =>
      (Host.Outcome.next
        (answered s1 p f code (.site echo t.loadName t.loader.nextIndex t.loader.length t.loader.fault) t) :
        Host.Outcome State Fault Refusal)
    let loaded := fun (words : List Word) (length : Option Nat) =>
      { s1 with loader := { s.loader with
          state := .loading, words := words, nextIndex := words.length, length := length, fault := .none } }
    let faulted := fun (i : Nat) (words : List Word) (length : Option Nat) =>
      { s1 with loader := { s.loader with
          state := .configFault, words := words, nextIndex := 0, length := length, fault := .image i, reading := false } }
    let judged := (s.loader.state = .loading ∧ s.loader.reading = false) ∨ s.loader.state = .configFault
    (¬judged → exec (.siteWords p tag start new) s = answers .wrongState none s1) ∧
    (judged → start.toNat ≠ s.loader.nextIndex → exec (.siteWords p tag start new) s = answers .badValue none s1) ∧
    (∀ l, s.loader.state = .loading → s.loader.reading = false → s.loader.length = some l →
      l < start.toNat + new.length → exec (.siteWords p tag start new) s = answers .badValue none s1) ∧
    (judged → start.toNat = 0 → s.loader.nextIndex = 0 → (s.loader.state = .loading → s.loader.length = none) →
      (headerOk (wordOf new 0) = false →
        exec (.siteWords p tag start new) s = answers .imageBad none (faulted 0 [] none)) ∧
      (headerOk (wordOf new 0) = true →
        exec (.siteWords p tag start new) s =
          answers .ok (some (0, new)) (loaded new (some (imageLength (wordOf new 0)))))) ∧
    (∀ l, s.loader.state = .loading → s.loader.reading = false → s.loader.length = some l → start.toNat ≠ 0 →
      start.toNat = s.loader.nextIndex → start.toNat = s.loader.words.length → start.toNat + new.length ≤ l →
      let words := s.loader.words ++ new
      (start.toNat + new.length < l →
        exec (.siteWords p tag start new) s = answers .ok (some (start.toNat, new)) (loaded words (some l))) ∧
      (start.toNat + new.length = l →
        (∀ i, checkImage words = .fail i →
          exec (.siteWords p tag start new) s = answers .imageBad none (faulted i words (some l))) ∧
        ∀ image, checkImage words = .pass image →
          exec (.siteWords p tag start new) s = answers .ok none (becomeValid words image s1)))

/-- The entry to VALID: the image is in force; the demand timer is realigned to the first multiple of P strictly after ST; the
ports have the image's rights; routing and thresholds are the image's, with every attention line judged; the cut masks are the
image's; the ring is N zero pairs; and a STOW line that is high is taken as a rise, which enters STOW. That the timer runs a
full period of elapsed time on while the clock stands at its largest value is the model's reading (log 11), and so is the next
expected index L after a memory read (log 45). -/
def Obligations.EntryToValidPutsTheImageInForce : Prop :=
  ∀ (words : List Word) (image : SiteImage) (s : State),
    let t : State :=
      { s with
        loader := { s.loader with
          state := .valid image, words := words, nextIndex := words.length, length := some words.length, fault := .none
          reading := false }
        time := { s.time with
          nextInstant :=
            if s.time.clock = clockMax then .atElapsed (s.time.elapsed + image.periodMs * 1000)
            else .atSiteTime ((s.time.clock / (image.periodMs * 1000) + 1) * (image.periodMs * 1000)) }
        link := PerPort.build fun p =>
          { s.link.get p with
            rights := ⟨(image.ports.get p).plan, (image.ports.get p).guide, (image.ports.get p).offset⟩ }
        notice :=
          { routing := image.routing
            ports := PerPort.build fun p =>
              { threshold := (image.ports.get p).threshold
                waiting := (s.notice.ports.get p).waiting
                attention := (s.notice.ports.get p).waiting.any fun src =>
                  decide ((image.ports.get p).threshold < (routingOf image.routing src).level) ||
                  (routingOf image.routing src).level == 3 } }
        drive := PerAxis.build fun a => { s.drive.get a with cutMask := image.cutMask.get a }
        corr := { s.corr with ring := List.replicate image.ringDepth (0, 0) } }
    becomeValid words image s = (if s.lines.stow = true then stowRise t else t) ∧
    (s.lines.stow = true → (becomeValid words image s).ctrl.listState = .stow) ∧
    (1 ≤ image.periodMs → s.time.clock < clockMax →
      let period := image.periodMs * 1000
      ∃ n, (becomeValid words image s).time.nextInstant = .atSiteTime n ∧ n % period = 0 ∧ s.time.clock < n ∧
        ∀ m, m % period = 0 → s.time.clock < m → n ≤ m)

/-- What the checks let pass is an image that sums to 0 with every field in the range R189 and R190 give it; what they fail
is named by its word, and the fields are judged in word order. -/
def Obligations.PassedImageIsWithinItsRanges : Prop :=
  ∀ words : List Word,
    (∀ image, checkImage words = .pass image →
      image = parseImage words ∧ words.foldl (· + ·) 0 = 0 ∧
      (5 ≤ image.periodMs ∧ image.periodMs ≤ 50) ∧ image.filterUs ≤ 255 ∧
      (∀ p, (image.ports.get p).threshold ≤ 2) ∧
      (-97200000 ≤ image.azLow ∧ image.azHigh ≤ 97200000) ∧
      (129600000 ≤ image.azHigh - image.azLow ∧ image.azHigh - image.azLow ≤ 194400000) ∧
      (0 ≤ image.elLow ∧ image.elLow < image.elCeil ∧ image.elCeil ≤ 32400000) ∧ image.rotLow < image.rotHigh ∧
      (image.horizon.length = 36 ∧ ∀ v ∈ image.horizon, (v : Int) * 1000 ≤ image.elCeil) ∧
      (∀ a, 1 ≤ (image.calm.get a).amax ∧ (image.calm.get a).amax ≤ (image.calm.get a).vmax ∧
        (image.calm.get a).vmax ≤ 2097152) ∧
      (∀ a, 1 ≤ (image.gust.get a).amax ∧ (image.gust.get a).amax ≤ (image.gust.get a).vmax ∧
        (image.gust.get a).vmax ≤ 2097152) ∧
      (∀ a, image.rateCeiling.get a ≤ 2147483647 ∧ image.rateCeiling.get a * image.periodMs * 1000 ≤ (image.gust.get a).amax * 256000000) ∧
      (∀ a, 1 ≤ image.tolerance.get a ∧ image.tolerance.get a ≤ 100000 ∧ image.brakeMs.get a ≤ 2000 ∧
        1 ≤ image.followLimit.get a ∧ image.followLimit.get a ≤ 1000000) ∧
      (image.settleHoldMs ≤ 10000 ∧ image.followGraceMs ≤ 1000) ∧
      (1000 ≤ image.settleTimeoutMs ∧ image.settleTimeoutMs ≤ 600000) ∧
      (-64800000 ≤ image.guiderAngle ∧ image.guiderAngle ≤ 64799999) ∧
      (image.stepLimit ≤ 50000 ∧ image.guideRange ≤ 60000 ∧ image.offsetRange ≤ 3600000) ∧
      (1 ≤ image.ringDepth ∧ image.ringDepth ≤ 8) ∧
      (image.coefficients.length = 8 ∧ ∀ c ∈ image.coefficients, -512 ≤ c ∧ c ≤ 512) ∧
      (image.elLow ≤ image.stowElevation ∧ image.stowElevation ≤ image.elCeil) ∧
      (image.routing.length = 12 ∧ ∀ r ∈ image.routing, r.level ≤ 3)) ∧
    (∀ i, checkImage words = .fail i →
      (words.foldl (· + ·) 0 ≠ 0 ∧ i = words.length - 1) ∨
      (words.foldl (· + ·) 0 = 0 ∧ 1 ≤ i ∧ i ≤ 62 ∧ (i, false) ∈ fieldChecks (parseImage words) ∧
        ∀ x ∈ fieldChecks (parseImage words), x.2 = false → i ≤ x.1))

/-- RESTART: refused while an axis is RELEASING, ON or STOPPING; otherwise each block takes its RESTART values, every
pending set is emptied, and a STOW line that is high is taken as a rise. That the reply carries the list state after the line is
judged is the model's reading (log 38), and so are dwell 0 and no options with no target active (log 46). -/
def Obligations.RestartTakesTheRestartValues : Prop :=
  ∀ (p : Port) (tag : Byte) (s : State), Served .restart p s →
    ((∃ a, (s.drive.get a).state ≠ .off ∧ (s.drive.get a).state ≠ .cut) →
      exec (.restart p tag) s = refusedBy .restart p tag [] .wrongState s) ∧
    ((∀ a, (s.drive.get a).state = .off ∨ (s.drive.get a).state = .cut) →
      let cleared := fun t : State =>
        { t with
          list := { records := [], nextSerial := 1, changeCount := 0, log := [], nextEntry := s.list.nextEntry }
          ctrl := State.reset.ctrl
          time := { s.time with pendingSet := none }
          traj := { s.traj with
            axes := s.traj.axes.map fun x =>
              { x with base := x.demand, offset := 0, guide := 0, e := 0, w := 0, demandStep := 0 }
            source := .freeze, slot := none, adoptedSerial := 0, arrivalSet := false }
          corr := ⟨List.replicate s.image.ringDepth (0, 0), 0, 0, none, []⟩
          drive := s.drive.map fun d => { d with brakeTimer := none }
          capture := { s.capture with fifo := [], collection := none }
          notice := { s.notice with
            ports := PerPort.build fun q => { s.notice.ports.get q with waiting := [], attention := false } } }
      (s.lines.stow = false →
        exec (.restart p tag) s =
          acceptedBy .restart p tag [] (.restarted .stop (s.drive.map (·.state))) cleared s) ∧
      (s.lines.stow = true →
        exec (.restart p tag) s =
          acceptedBy .restart p tag [] (.restarted .stow (s.drive.map (·.state))) (fun t => stowRise (cleared t)) s))

/-! ## The link interface -/

/-- Every request a command spells is read back, with every operand at every value. Every frame whose KIND is of R174's table,
with a LEN the table gives that kind, is read as a command, and that command spells the frame again with every byte of its
payload, but for the byte that pads the last word of five kinds, which is spelled as 0 and ignored when received (R175).
What is read is a well-formed command that spells a frame of the same KIND, TAG and LEN. -/
def Obligations.RequestFramesReadBack : Prop :=
  (∀ (i : Instr) (p : Port) (f : Frame), i.wellFormed = true → i.request = some (p, f) → decodeRequest p f = some i) ∧
  (∀ (i : Instr) (p : Port) (f : Frame), decodeRequest p f = some i →
    i.wellFormed = true ∧ ∃ g, i.request = some (p, g) ∧ g.kind = f.kind ∧ g.tag = f.tag ∧ g.len = f.len) ∧
  ∀ (k : RequestKind) (p : Port) (f : Frame), requestKindOf f.kind = some k → k.lenOk f.len = true →
    let padded := k = .readList ∨ k = .enableAxes ∨ k = .disableAxes ∨ k = .setRouting ∨ k = .setThreshold
    ∃ i, decodeRequest p f = some i ∧
      (f.payload.length % 2 = 0 →
        i.request = some (p, { f with payload := if padded then f.payload.dropLast ++ [0] else f.payload }))

/-- The receiver of a line. When it hunts it assembles frames sent back to back, each as it was sent, when no gap passes
2,000 µs. It discards characters of the hunt uncounted; a LEN above 96 and a partial frame whose gap has passed as framing
discards, the late character judged afresh; a complete frame whose check fails as a check discard. -/
def Obligations.ReceiverAssemblesOrDiscards : Prop :=
  (∀ (frames : List Frame) (times : List Nat),
    (∀ f ∈ frames, f.payload.length % 2 = 0 ∧ f.len ≤ requestLenMax) →
    times.length = (frames.flatMap frameBytes).length → noGaps times →
    feed (times.zip (frames.flatMap frameBytes)) .hunting = (.hunting, frames)) ∧
  ∀ (now : Nat) (b : Byte),
    receive now b .hunting = ⟨if b = 0xC3 then .readingLen now else .hunting, false, false, none⟩ ∧
    (∀ last, now - last ≤ 2000 → 96 < b.toNat → receive now b (.readingLen last) = ⟨.hunting, true, false, none⟩) ∧
    (∀ (r : Receiver) (last : Nat), r.last? = some last → 2000 < now - last →
      receive now b r = ⟨if b = 0xC3 then .readingLen now else .hunting, true, false, none⟩) ∧
    ∀ (len : Nat) (got : List Byte) (last : Nat), now - last ≤ 2000 → got.length + 1 = 4 + 2 * len →
      crc16 (BitVec.ofNat 8 len :: (got ++ [b]).take (2 + 2 * len)) ≠
        byteAt (got ++ [b]) (2 + 2 * len) ++ byteAt (got ++ [b]) (3 + 2 * len) →
      receive now b (.assembling len got last) = ⟨.hunting, false, true, none⟩

/-- A character on a port: the receiver and the discard counts move; a frame with a good check enters a free buffer to wait
its turn, is refused by the link interface by the checks of R169 in their order, waits behind a request that waits to be
carried out, and is lost to overrun when two requests are unanswered. That a SITE_WORDS refused by these checks carries no data
is the model's reading, against R192's "every reply" (log 38). -/
def Obligations.LinkCharacterHandsFramesOn : Prop :=
  ∀ (p : Port) (b : Byte) (s : State), s.lines.reset = false →
    let q := s.link.get p
    let r := receive s.time.elapsed b q.receiver
    let t := s.modPort p fun q =>
      { q with
        receiver := r.receiver
        framing := if r.framing = true then holdUp16 q.framing else q.framing
        check := if r.check = true then holdUp16 q.check else q.check }
    (r.frame = none → exec (.linkCharacter p b) s = .next t) ∧
    (∀ f g, r.frame = some f → q.buffers.length = 1 → oldestWaiting q.buffers = some g → judgeRequest s p g = none →
      exec (.linkCharacter p b) s = .next (received p f t)) ∧
    (∀ f, r.frame = some f → q.buffers.length = 2 →
      (∀ g, oldestWaiting q.buffers = some g → judgeRequest s p g = none) →
      exec (.linkCharacter p b) s =
        .next (raise .linkOverrun (t.modPort p fun q => { q with overrun := holdUp16 q.overrun, marker := true }))) ∧
    (∀ f, r.frame = some f → Takes q →
      (requestKindOf f.kind = none →
        exec (.linkCharacter p b) s = .next (answered (received p f t) p f .badKind .none (received p f t))) ∧
      ∀ k, requestKindOf f.kind = some k →
        (k.lenOk f.len = false →
          exec (.linkCharacter p b) s = .next (answered (received p f t) p f .badLength .none (received p f t))) ∧
        (k.lenOk f.len = true → needsRight k = true → s.isValid = false →
          exec (.linkCharacter p b) s = .next (answered (received p f t) p f .notConfigured .none (received p f t))) ∧
        (k.lenOk f.len = true → (needsRight k = true → s.isValid = true) → mayRequest q.rights p k = false →
          exec (.linkCharacter p b) s = .next (answered (received p f t) p f .noRight .none (received p f t))) ∧
        (k.lenOk f.len = true → (needsRight k = true → s.isValid = true) → mayRequest q.rights p k = true →
          exec (.linkCharacter p b) s = .next (received p f t)))

/-- The other events of a port: a gap above 2,000 µs discards the partial frame; a reply sent in full frees its request's
buffer and the next reply begins, carrying a pending OVERRUN marker; a quiet port of a VALID part takes its image rate. -/
def Obligations.PortEventsActOnTheirPortAlone : Prop :=
  ∀ (p : Port) (s : State), s.lines.reset = false →
    let q := s.link.get p
    (∀ last, q.receiver.last? = some last → 2000 < s.time.elapsed - last →
      exec (.linkGapExpiry p) s =
        .next (s.modPort p fun q => { q with receiver := .hunting, framing := holdUp16 q.framing })) ∧
    (∀ r, q.replies = [r] →
      exec (.replySent p) s =
        .next (s.modPort p fun q => { q with replies := [], buffers := q.buffers.tail, tx := [] })) ∧
    (∀ r r' rest, q.replies = r :: r' :: rest →
      exec (.replySent p) s =
        .next (s.modPort p fun q =>
          { q with
            replies := r' :: rest, buffers := q.buffers.tail, tx := replyBytes q.marker r', marker := false })) ∧
    (s.isValid = true → q.receiver = .hunting → q.replies = [] →
      exec (.portRateChange p) s = .next (s.modPort p fun q => { q with rate := (s.image.ports.get p).rate }))

/-- A request that its port takes and that needs PLAN, GUIDE or OFFSET before VALID is refused with NOT_CONFIGURED, and one
the port has no right to make with NO_RIGHT. Nothing but its port changes: the reply joins the queue, and the refusal record
and count tell of it. That the NO_RIGHT of a SITE_WORDS on ports 1 to 3 carries no data is the model's reading, against R192's
"every reply" (log 38). -/
def Obligations.LinkRefusesWithoutConfigurationOrRight : Prop :=
  ∀ (i : Instr) (k : RequestKind) (p : Port) (f : Frame) (s : State), i.wellFormed = true → i.request = some (p, f) →
    requestKindOf f.kind = some k → s.lines.reset = false → Takes (s.link.get p) →
    let code : Option Code :=
      if needsRight k = true ∧ s.isValid = false then some .notConfigured
      else if mayRequest (s.link.get p).rights p k = false then some .noRight
      else none
    ∀ c, code = some c →
      ∃ t, exec i s = .next t ∧ t = { s with link := t.link } ∧ (∀ q, q ≠ p → t.link.get q = s.link.get q) ∧
        (t.link.get p).buffers = (s.link.get p).buffers ++ [⟨f, true⟩] ∧
        (t.link.get p).replies = (s.link.get p).replies ++ [⟨f.kind, f.tag, c, .none⟩] ∧
        (t.link.get p).refusal = some ⟨f.kind, f.tag, c, s.ctrl.listState, s.ctrl.phase, s.time.clock⟩ ∧
        (t.link.get p).refusalCount = ((s.link.get p).refusalCount + 1) % 65536 ∧
        (t.link.get p).rights = (s.link.get p).rights

/-- A request that finds another waiting at its port takes the free buffer behind it and is not carried out; one that finds
two unanswered requests, waiting or carried out, is lost: the overrun count rises, the marker becomes pending and LINK_OVERRUN
is raised. The request that waits as the oldest of its port is carried out by its command as if it arrived then. That a request
command stands for its frame is the model's choice (log 4), and which frames are one request its reading of R175 (log 39). -/
def Obligations.PortHoldsTwoUnansweredRequests : Prop :=
  ∀ (i : Instr) (p : Port) (f : Frame) (s : State), i.wellFormed = true → i.request = some (p, f) →
    s.lines.reset = false →
    (∀ g, oldestWaiting (s.link.get p).buffers = some g → sameRequest p g f = false →
      ((s.link.get p).buffers.length = 1 → exec i s = .next (received p f s)) ∧
      ((s.link.get p).buffers.length = 2 →
        exec i s =
          .next (raise .linkOverrun (s.modPort p fun q => { q with overrun := holdUp16 q.overrun, marker := true })))) ∧
    (oldestWaiting (s.link.get p).buffers = none → (s.link.get p).buffers.length = 2 →
      exec i s =
        .next (raise .linkOverrun (s.modPort p fun q => { q with overrun := holdUp16 q.overrun, marker := true }))) ∧
    (Takes (s.link.get p) → exec i (received p f s) = exec i s)

/-- The bytes of a reply: SYNC, LEN, the request's KIND and TAG, the payload and its check. The payload is whole words: the
code, the flags byte with the OVERRUN marker, then the data; a reply without data has LEN 1. READ_POINTING lies as in the table
of R177, READ_CAPTURES as in that of R178, READ_OUTCOMES in records of 28 bytes and READ_LIST in records of 56 padded to whole
words, and the entry of POP_OFFSET unpadded before the depth and the totals (the places of these three are log 18). -/
def Obligations.ReplyBytesLieInTheirPlaces : Prop :=
  ∀ (marker : Bool) (r : Reply),
    let payload := replyPayload marker r
    let absent := fun (x : Option Nat) => BitVec.ofNat 48 (x.getD 0)
    (payload.length % 2 = 0 ∧
      replyBytes marker r =
        0xC3 :: BitVec.ofNat 8 (payload.length / 2) :: r.kind :: r.tag ::
          (payload ++ bytes2 (crc16 (BitVec.ofNat 8 (payload.length / 2) :: r.kind :: r.tag :: payload))) ∧
      Field payload 0 [BitVec.ofNat 8 (codeNumber r.code), if marker = true then 1 else 0]) ∧
    (r.data = .none → payload.length = 2) ∧
    (∀ v : PointingView, r.data = .pointing v →
      payload.length = 116 ∧ Field payload 2 (bytes6 (absent v.lastInstant)) ∧
      (∀ a, let x := v.axes.get a
        let place := 8 + 26 * axisNumber a
        Field payload place (bytes4 (BitVec.ofInt 32 x.demand)) ∧
        Field payload (place + 4) (bytes4 (BitVec.ofInt 32 x.reference)) ∧
        Field payload (place + 8) (bytes4 (BitVec.ofInt 32 x.e)) ∧
        Field payload (place + 12) (bytes4 (BitVec.ofInt 32 x.w)) ∧
        Field payload (place + 16) (bytes4 (BitVec.ofInt 32 x.demandStep)) ∧
        Field payload (place + 20) (bytes4 (BitVec.ofInt 32 (x.lastError.getD 0))) ∧
        Field payload (place + 24)
          [(if x.lastError.isSome = true then 1 else 0) + (if x.held = true then 2 else 0), 0]) ∧
      Field payload 86 [if v.profile = .gust then 1 else 0, if v.forceGust = true then 1 else 0] ∧
      Field payload 88 [match v.source with | .track => 0 | .freeze => 1 | .stow => 2] ∧
      (v.slot = none → Field payload 89 [0]) ∧
      (∀ h, v.slot = some h →
        Field payload 89 [match h.content with | .newTrack _ _ => 1 | .freeze => 2 | .stow _ => 3]) ∧
      Field payload 90 (bytes2 (BitVec.ofNat 16 v.adoptedSerial)) ∧
      Field payload 92 (bytes2 (BitVec.ofNat 16 ((v.slot.map (·.serial)).getD 0))) ∧
      Field payload 94 (bytes2 (BitVec.ofNat 16 ((v.track.map (·.1)).getD 0))) ∧
      Field payload 96 (bytes6 (absent (v.track.map (·.2)))) ∧
      Field payload 102 [match v.listState with | .stop => 0 | .run => 1 | .hold => 2 | .stow => 3] ∧
      Field payload 103 [match v.phase with | .none => 0 | .approach => 1 | .settle => 2 | .track => 3] ∧
      Field payload 104 (bytes2 (BitVec.ofNat 16 v.activeId)) ∧ Field payload 106 [BitVec.ofNat 8 v.depth] ∧
      Field payload 107 [if v.lastInstant.isSome = true then 1 else 0] ∧
      Field payload 108 (bytes4 (BitVec.ofInt 32 v.gAz)) ∧ Field payload 112 (bytes4 (BitVec.ofInt 32 v.gEl))) ∧
    (∀ closedLeft opened level records, r.data = .captures closedLeft opened level records →
      payload.length = 18 + 54 * records.length ∧
      Field payload 2
        [BitVec.ofNat 8 records.length, BitVec.ofNat 8 closedLeft, if opened.isSome = true then 1 else 0,
         match level with | .low => 0 | .high => 1 | .unknown => 2] ∧
      Field payload 6 (bytes4 (BitVec.ofNat 32 ((opened.map (·.1)).getD 0)) ++ [0, 0]) ∧
      Field payload 12 (bytes6 (absent (opened.map (·.2)))) ∧
      ∀ (i : Nat) (x : CaptureRecord), records[i]? = some x →
        let place := 18 + 54 * i
        Field payload place (bytes4 (BitVec.ofNat 32 x.serial)) ∧
        Field payload (place + 4) (bytes6 (BitVec.ofNat 48 x.openTime)) ∧
        Field payload (place + 10) (bytes2 (BitVec.ofNat 16 x.targetId)) ∧
        Field payload (place + 12) [match x.phase with | .none => 0 | .approach => 1 | .settle => 2 | .track => 3] ∧
        Field payload (place + 13)
          [(if x.earlierLost = true then 1 else 0) + (if x.targetEnded = true then 2 else 0) +
            (if x.closing.isSome = true then 4 else 0)] ∧
        Field payload (place + 14) (bytes6 (BitVec.ofNat 48 x.instant)) ∧
        Field payload (place + 20) (bytes4 (BitVec.ofInt 32 x.demands.az)) ∧
        Field payload (place + 24) (bytes4 (BitVec.ofInt 32 x.demands.el)) ∧
        Field payload (place + 28) (bytes4 (BitVec.ofInt 32 x.demands.rot)) ∧
        Field payload (place + 32) [BitVec.ofNat 8 x.depth, 0] ∧
        Field payload (place + 34) (bytes6 (BitVec.ofNat 48 x.onTarget)) ∧
        Field payload (place + 40) (bytes2 (BitVec.ofNat 16 x.guideCount)) ∧
        Field payload (place + 42) (bytes6 (absent (x.closing.map (·.1)))) ∧
        Field payload (place + 48) (bytes6 (absent (x.closing.map (·.2))))) ∧
    (∀ oldest newest more entries, r.data = .outcomes oldest newest more entries →
      payload.length = 12 + 28 * entries.length ∧
      ∀ (i : Nat) (o : OutcomeEntry), entries[i]? = some o → Field payload (12 + 28 * i) (outcomeBytes o)) ∧
    (∀ length free change records, r.data = .list length free change records →
      payload.length = 8 + 56 * records.length ∧
      ∀ (i : Nat) (x : Nat × TargetRecord), records[i]? = some x →
        Field payload (8 + 56 * i) (listRecordBytes x.1 x.2)) ∧
    ∀ entry depth totals, r.data = .popped entry depth totals →
      payload.length = 40 ∧ Field payload 2 (bytes4 (BitVec.ofInt 32 entry.dx)) ∧
      Field payload 14 (bytes4 (BitVec.ofInt 32 entry.axes.az)) ∧
      Field payload 26 [if entry.capped = true then 1 else 0, BitVec.ofNat 8 depth] ∧
      Field payload 28 (bytes4 (BitVec.ofInt 32 totals.az)) ∧ Field payload 32 (bytes4 (BitVec.ofInt 32 totals.el)) ∧
      Field payload 36 (bytes4 (BitVec.ofInt 32 totals.rot))

/-! ## The list store -/

/-- An accepted ADD_TARGET: the record, WAITING with the next insertion serial and its run-time fields at their initial
values, takes its place in list order; serial and change count move on; a watch is set, and when the start time has been
reached the start check is taken at once. The reply carries the serial and the free count after the addition (log 25). -/
def Obligations.AddTargetJoinsTheList : Prop :=
  ∀ (p : Port) (tag : Byte) (h : WireHeader) (wire : List WireNode) (w : WrapPreference) (o : Options) (s : State),
    Served .addTarget p s → 1 ≤ wire.length → wire.length ≤ 4 →
    let nodes := wire.map nodeOf
    s.time.status ≠ .unset → h.id.toNat ≠ 0 → h.dwell.toNat ≤ 3600000 → wrapOf? h.wrap = some w →
    optionsOf? h.options = some o → nodes.all (nodeInRange s.image) = true →
    h.start.toNat < h.expire.toNat → s.time.clock < h.expire.toNat → firstTime nodes ≤ h.start.toNat + 300000000 →
    h.expire.toNat ≤ finalTime nodes + 300000000 → inOrder nodes = true →
    (∀ r ∈ s.list.records, r.id ≠ h.id.toNat) → s.list.records.length < 64 → nodes.length ≤ freeCount s.list →
    let r : TargetRecord :=
      { id := h.id.toNat, start := h.start.toNat, expire := h.expire.toNat, dwell := h.dwell.toNat, wrap := w
        options := o, status := .waiting, serial := s.list.nextSerial, nodes := nodes, late := false
        actualStart := none, firstTrack := none, guideCount := 0 }
    let list : ListStore :=
      { s.list with
        records := placeRecord r s.list.records
        nextSerial := if s.list.nextSerial < 4294967295 then s.list.nextSerial + 1 else 1
        changeCount := (s.list.changeCount + 1) % 65536 }
    let joined := fun t : State =>
      { t with
        list := list
        ctrl := { s.ctrl with watches := s.ctrl.watches ++ [⟨r.id, r.start, decide (r.start ≤ s.time.clock)⟩] } }
    exec (.addTarget p tag h wire) s =
      acceptedBy .addTarget p tag (headerBytes h ++ wire.flatMap nodeBytes) (.added s.list.nextSerial (freeCount list))
        (fun t => if r.start ≤ s.time.clock then startCheck (joined t) else joined t) s

/-- ADD_TARGET's refusals in the order of R12, from NOT_CONFIGURED on; each changes nothing but the port. -/
def Obligations.AddTargetRefusesInOrder : Prop :=
  ∀ (p : Port) (tag : Byte) (h : WireHeader) (wire : List WireNode) (s : State),
    1 ≤ wire.length → wire.length ≤ 4 →
    let nodes := wire.map nodeOf
    let refuses := fun code =>
      exec (.addTarget p tag h wire) s = refusedBy .addTarget p tag (headerBytes h ++ wire.flatMap nodeBytes) code s
    let badValue :=
      h.id.toNat = 0 ∨ 3600000 < h.dwell.toNat ∨ 2 < h.wrap.toNat ∨ 7 < h.options.toNat ∨
      (∃ n ∈ nodes, nodeInRange s.image n = false) ∨ h.expire.toNat ≤ h.start.toNat ∨ h.expire.toNat ≤ s.time.clock ∨
      h.start.toNat + 300000000 < firstTime nodes ∨ finalTime nodes + 300000000 < h.expire.toNat
    let inUse := ∃ r ∈ s.list.records, r.id = h.id.toNat
    (Unconfigured p s → refuses .notConfigured) ∧
    (Served .addTarget p s → s.time.status = .unset → refuses .timeUnset) ∧
    (Served .addTarget p s → s.time.status ≠ .unset →
      (badValue → refuses .badValue) ∧
      (¬badValue → inOrder nodes = false → refuses .nodeOrder) ∧
      (¬badValue → inOrder nodes = true → inUse → refuses .idInUse) ∧
      (¬badValue → inOrder nodes = true → ¬inUse → 64 ≤ s.list.records.length → refuses .listFull) ∧
      (¬badValue → inOrder nodes = true → ¬inUse → s.list.records.length < 64 → freeCount s.list < nodes.length →
        refuses .poolFull))

/-- APPEND_NODES: the refusals in the order of R15, each changing nothing but the port; an accepted one places the nodes, in the
order given, after the last node of the named record, WAITING or ACTIVE, and raises the change count; header, status and place
in the list stand, no other block moves, and the reply carries the record's node count and the pool's free count. Where the
nodes lie on the mount is not judged. -/
def Obligations.AppendNodesAddsAfterTheLastNode : Prop :=
  ∀ (p : Port) (tag : Byte) (id : Half) (wire : List WireNode) (s : State),
    1 ≤ wire.length → wire.length ≤ 4 →
    let nodes := wire.map nodeOf
    let payload := bytes2 id ++ wire.flatMap nodeBytes
    let refuses := fun code => exec (.appendNodes p tag id wire) s = refusedBy .appendNodes p tag payload code s
    (Unconfigured p s → refuses .notConfigured) ∧
    (Served .appendNodes p s → (∃ n ∈ nodes, nodeInRange s.image n = false) → refuses .badValue) ∧
    (Served .appendNodes p s → nodes.all (nodeInRange s.image) = true →
      ((∀ r ∈ s.list.records, r.id ≠ id.toNat) → refuses .noSuchTarget) ∧
      ∀ r, findRecord id.toNat s.list.records = some r →
        let ordered := inOrderFrom (finalTime r.nodes) nodes = true ∧
          (r.status = .active → s.time.clock < firstTime nodes)
        (¬ordered → refuses .nodeOrder) ∧
        (ordered → 16 < r.nodes.length + nodes.length → refuses .recordFull) ∧
        (ordered → r.nodes.length + nodes.length ≤ 16 → freeCount s.list < nodes.length → refuses .poolFull) ∧
        (ordered → r.nodes.length + nodes.length ≤ 16 → nodes.length ≤ freeCount s.list →
          let list : ListStore :=
            { s.list with
              records := s.list.records.map fun q => if q.id = r.id then { q with nodes := q.nodes ++ nodes } else q
              changeCount := (s.list.changeCount + 1) % 65536 }
          exec (.appendNodes p tag id wire) s =
            acceptedBy .appendNodes p tag payload (.appended (r.nodes.length + nodes.length) (freeCount list))
              (fun t => { t with list := list }) s))

/-- DELETE_TARGET removes the named WAITING record and its watch, without an outcome entry, raises LIST_EMPTY when the list is
then empty, and the start check follows; an absent or an ACTIVE record is refused. That the free count of the reply is taken
before the start check is the model's reading (log 25). -/
def Obligations.DeleteTargetRemovesAWaitingRecord : Prop :=
  ∀ (p : Port) (tag : Byte) (id : Half) (s : State),
    (Unconfigured p s →
      exec (.deleteTarget p tag id) s = refusedBy .deleteTarget p tag (bytes2 id) .notConfigured s) ∧
    (Served .deleteTarget p s → (∀ r ∈ s.list.records, r.id ≠ id.toNat) →
      exec (.deleteTarget p tag id) s = refusedBy .deleteTarget p tag (bytes2 id) .noSuchTarget s) ∧
    (Served .deleteTarget p s → ∀ r, findRecord id.toNat s.list.records = some r →
      (r.status = .active →
        exec (.deleteTarget p tag id) s = refusedBy .deleteTarget p tag (bytes2 id) .targetActive s) ∧
      (r.status = .waiting →
        let list : ListStore :=
          { s.list with
            records := s.list.records.filter fun q => q.id != id.toNat
            changeCount := (s.list.changeCount + 1) % 65536 }
        let removed := fun t : State =>
          { t with list := list, ctrl := { s.ctrl with watches := s.ctrl.watches.filter fun w => w.id != id.toNat } }
        exec (.deleteTarget p tag id) s =
          acceptedBy .deleteTarget p tag (bytes2 id) (.deleted (freeCount list))
            (fun t => startCheck (if list.records = [] then raise .listEmpty (removed t) else removed t)) s))

/-- The expiry of a WAITING record whose expire time is reached. Every WAITING record of that expire time leaves with it, in list
order: an EXPIRED entry each, with consecutive entry serials, joins the log, which loses its lowest serial when it holds 32; the
records and their watches leave; LIST_EMPTY when the list is then empty; then, once for each, the controller takes its start
check and TARGET_ENDED is raised (that no check comes between the removals is log 40). -/
def Obligations.RecordExpiryLogsAndRemoves : Prop :=
  ∀ (id : Half) (r : TargetRecord) (s : State), s.lines.reset = false → findRecord id.toNat s.list.records = some r →
    r.status = .waiting → r.expire ≤ s.time.clock → ListSound s.list →
    let gone := s.list.records.filter fun q => q.status == .waiting && q.expire == r.expire
    let kept := fun (id : Nat) => gone.all fun q => q.id != id
    let logged := gone.foldl
      (fun (l : List OutcomeEntry × Nat) q =>
        (placeEntry ⟨l.2, q.id, .expired, none, s.time.clock, 0, 0, false⟩ (if l.1.length < 32 then l.1 else l.1.tail),
         if l.2 < 4294967295 then l.2 + 1 else 1))
      (s.list.log, s.list.nextEntry)
    let list : ListStore :=
      { s.list with
        records := s.list.records.filter fun q => kept q.id
        changeCount := (s.list.changeCount + gone.length) % 65536
        log := logged.1
        nextEntry := logged.2 }
    let t : State := { s with list := list, ctrl := { s.ctrl with watches := s.ctrl.watches.filter fun w => kept w.id } }
    exec (.recordExpiry id) s =
      .next (gone.foldl (fun u _ => raise .targetEnded (startCheck u))
        (if list.records = [] then raise .listEmpty t else t))

/-- READ_LIST answers up to 8 records from a position from 0 to 63, with the length, the free count and the change count, and
refuses a position above 63; READ_OUTCOMES answers the oldest 8 of the entries after a serial, newest first, with the ends of
the log and whether more are held. Neither changes anything. That the first entry of the log is the oldest and the last the
newest, by the plain numbers of their serials, is the model's reading (log 36). -/
def Obligations.ListReadsAnswerWhatIsHeld : Prop :=
  (∀ (p : Port) (tag position : Byte) (s : State), Served .readList p s →
    (63 < position.toNat →
      exec (.readList p tag position) s = refusedBy .readList p tag [position, 0] .badValue s) ∧
    (position.toNat ≤ 63 → ∃ rs : List (Nat × TargetRecord),
      rs.map (·.2) = (s.list.records.drop position.toNat).take 8 ∧
      rs.map (·.1) = (List.range rs.length).map (position.toNat + ·) ∧
      exec (.readList p tag position) s =
        acceptedBy .readList p tag [position, 0]
          (.list s.list.records.length (512 - nodesHeld s.list.records) s.list.changeCount rs) id s)) ∧
  ∀ (p : Port) (tag : Byte) (after : Word) (s : State), Served .readOutcomes p s →
    let later := s.list.log.filter fun o => decide (after.toNat < o.serial)
    exec (.readOutcomes p tag after) s =
      acceptedBy .readOutcomes p tag (bytes4 after)
        (.outcomes ((s.list.log.head?.map (·.serial)).getD 0) ((s.list.log.getLast?.map (·.serial)).getD 0)
          (decide (8 < later.length)) (later.take 8).reverse) id s

/-! ## The target controller -/

/-- RUN: refused in STOW, with a set pending, with the clock UNSET and with an axis not ON, in that order; in RUN it changes
nothing; from STOP or HOLD the list enters RUN, and with no candidate nothing else changes, otherwise the start check is
taken. -/
def Obligations.RunEntersRunFromStopOrHold : Prop :=
  ∀ (p : Port) (tag : Byte) (s : State), Served .run p s →
    let refuses := fun code => exec (.run p tag) s = refusedBy .run p tag [] code s
    let stopped := s.ctrl.listState = .stop ∨ s.ctrl.listState = .hold
    let running := fun t : State => { t with ctrl := { s.ctrl with listState := .run } }
    (s.ctrl.listState = .stow → refuses .wrongState) ∧
    (s.ctrl.listState = .run →
      exec (.run p tag) s = acceptedBy .run p tag [] (.sequencing .run s.ctrl.phase s.ctrl.activeId) id s) ∧
    (stopped → s.time.pendingSet ≠ none → refuses .wrongState) ∧
    (stopped → s.time.pendingSet = none → s.time.status = .unset → refuses .timeUnset) ∧
    (stopped → s.time.pendingSet = none → s.time.status ≠ .unset → (∃ a, (s.drive.get a).state ≠ .on) →
      refuses .wrongState) ∧
    (stopped → s.time.pendingSet = none → s.time.status ≠ .unset → (∀ a, (s.drive.get a).state = .on) →
      (candidate s = none →
        exec (.run p tag) s =
          acceptedBy .run p tag [] (.sequencing .run s.ctrl.phase s.ctrl.activeId) running s) ∧
      let t := startCheck (running (received p (requestFrame .run tag []) s))
      exec (.run p tag) s =
        acceptedBy .run p tag [] (.sequencing .run t.ctrl.phase t.ctrl.activeId) (fun s => startCheck (running s)) s)

/-- HOLD enters HOLD from RUN, STOP enters STOP from RUN or HOLD with a freeze handed whether or not a target was active, and
an active target then ends ABORTED; in the state asked for they change nothing; HOLD in STOP or STOW and STOP in STOW are
refused. -/
def Obligations.HoldAndStopMoveTheListState : Prop :=
  ∀ (p : Port) (tag : Byte) (s : State), 
    (Served .hold p s →
      (s.ctrl.listState = .run →
        exec (.hold p tag) s =
          acceptedBy .hold p tag [] (.sequencing .hold s.ctrl.phase s.ctrl.activeId)
            (fun t => { t with ctrl := { s.ctrl with listState := .hold } }) s) ∧
      (s.ctrl.listState = .hold →
        exec (.hold p tag) s =
          acceptedBy .hold p tag [] (.sequencing .hold s.ctrl.phase s.ctrl.activeId) id s) ∧
      (s.ctrl.listState = .stop ∨ s.ctrl.listState = .stow →
        exec (.hold p tag) s = refusedBy .hold p tag [] .wrongState s)) ∧
    (Served .stop p s →
      let serial := (s.ctrl.serial + 1) % 65536
      (s.ctrl.listState = .run ∨ s.ctrl.listState = .hold →
        (s.ctrl.phase = .none →
          exec (.stop p tag) s =
            acceptedBy .stop p tag [] (.sequencing .stop .none s.ctrl.activeId)
              (fun t =>
                { t with
                  ctrl := { s.ctrl with listState := .stop, serial := serial }
                  traj := { s.traj with slot := some ⟨.freeze, serial⟩ } }) s) ∧
        (s.ctrl.phase ≠ .none →
          exec (.stop p tag) s =
            acceptedBy .stop p tag [] (.sequencing .stop .none 0)
              (fun t =>
                let u := closeTarget .aborted { t with ctrl := { s.ctrl with listState := .stop } }
                { u with
                  ctrl := { u.ctrl with serial := serial }
                  traj := { u.traj with slot := some ⟨.freeze, serial⟩ } }) s)) ∧
      (s.ctrl.listState = .stop →
        exec (.stop p tag) s =
          acceptedBy .stop p tag [] (.sequencing .stop s.ctrl.phase s.ctrl.activeId) id s) ∧
      (s.ctrl.listState = .stow → exec (.stop p tag) s = refusedBy .stop p tag [] .wrongState s))

/-- ABORT and RELEASE: with no target active, another target's id, or for RELEASE a phase other than TRACK, the refusal of
their tables; otherwise the named target ends; in HOLD a freeze is handed after it, and in RUN the start check is taken and a
freeze handed when no successor has started. -/
def Obligations.AbortAndReleaseEndTheNamedTarget : Prop :=
  ∀ (p : Port) (tag : Byte) (id : Half) (s : State),
    let names := id.toNat = 0 ∨ id.toNat = s.ctrl.activeId
    let held := fun (outcome : OutcomeKind) (t : State) =>
      let u := closeTarget outcome t
      let serial := (s.ctrl.serial + 1) % 65536
      { u with ctrl := { u.ctrl with serial := serial }, traj := { u.traj with slot := some ⟨.freeze, serial⟩ } }
    let running := fun (outcome : OutcomeKind) (t : State) =>
      let u := startCheck (closeTarget outcome t)
      let serial := (u.ctrl.serial + 1) % 65536
      if u.ctrl.phase = .none then
        { u with ctrl := { u.ctrl with serial := serial }, traj := { u.traj with slot := some ⟨.freeze, serial⟩ } }
      else u
    (Unconfigured p s →
      exec (.abort p tag id) s = refusedBy .abort p tag (bytes2 id) .notConfigured s ∧
      exec (.release p tag id) s = refusedBy .release p tag (bytes2 id) .notConfigured s) ∧
    (Served .abort p s →
      let f := requestFrame .abort tag (bytes2 id)
      (s.ctrl.phase = .none → exec (.abort p tag id) s = refusedBy .abort p tag (bytes2 id) .wrongState s) ∧
      (s.ctrl.phase ≠ .none → ¬names →
        exec (.abort p tag id) s = refusedBy .abort p tag (bytes2 id) .noSuchTarget s) ∧
      (s.ctrl.phase ≠ .none → names →
        let t := endTarget .aborted (received p f s)
        exec (.abort p tag id) s =
          acceptedBy .abort p tag (bytes2 id) (.sequencing s.ctrl.listState t.ctrl.phase t.ctrl.activeId)
            (endTarget .aborted) s) ∧
      (s.ctrl.phase ≠ .none → names → s.ctrl.listState = .hold →
        exec (.abort p tag id) s =
          acceptedBy .abort p tag (bytes2 id) (.sequencing .hold .none 0) (held .aborted) s) ∧
      (s.ctrl.phase ≠ .none → names → s.ctrl.listState = .run →
        let t := running .aborted (received p f s)
        exec (.abort p tag id) s =
          acceptedBy .abort p tag (bytes2 id) (.sequencing .run t.ctrl.phase t.ctrl.activeId) (running .aborted) s)) ∧
    (Served .release p s →
      let f := requestFrame .release tag (bytes2 id)
      (s.ctrl.phase = .none → exec (.release p tag id) s = refusedBy .release p tag (bytes2 id) .wrongState s) ∧
      (s.ctrl.phase ≠ .none → ¬names →
        exec (.release p tag id) s = refusedBy .release p tag (bytes2 id) .noSuchTarget s) ∧
      (s.ctrl.phase = .approach ∨ s.ctrl.phase = .settle → names →
        exec (.release p tag id) s = refusedBy .release p tag (bytes2 id) .wrongState s) ∧
      (s.ctrl.phase = .track → names →
        let t := endTarget .released (received p f s)
        exec (.release p tag id) s =
          acceptedBy .release p tag (bytes2 id) (.sequencing s.ctrl.listState t.ctrl.phase t.ctrl.activeId)
            (endTarget .released) s) ∧
      (s.ctrl.phase = .track → names → s.ctrl.listState = .hold →
        exec (.release p tag id) s =
          acceptedBy .release p tag (bytes2 id) (.sequencing .hold .none 0) (held .released) s) ∧
      (s.ctrl.phase = .track → names → s.ctrl.listState = .run →
        let t := running .released (received p f s)
        exec (.release p tag id) s =
          acceptedBy .release p tag (bytes2 id) (.sequencing .run t.ctrl.phase t.ctrl.activeId) (running .released) s))

/-- The start check. The candidate is the first WAITING record in list order whose start time is reached and whose expire time
is not; there is none exactly when no record is such. The check does nothing outside RUN, with an axis not ON, with no
candidate, or with a target active whose candidate has no PREEMPT. A candidate without a feasible turn leaves with an entry
WRAP_INFEASIBLE, its actual start absent and its tracked time 0, LIST_EMPTY when the list is then empty and TARGET_ENDED,
without a hand-over, and the check chooses again. With a turn for it, an active target is closed PREEMPTED; the record becomes
ACTIVE, late when ST passes its start by more than P; the corrections are cleared: N zero pairs in the ring, G 0, no last
guide result, an empty stack, with the stack totals and G taken from the terms of each axis and added to its residual; the track
is handed with its turns under a new serial; the context is the record's, in APPROACH, with the settle timeout running;
TARGET_STARTED is raised. NEAREST is judged from the present AZ demand (log 14). -/
def Obligations.StartCheckStartsTheCandidate : Prop :=
  ∀ s : State,
    let eligible := fun r : TargetRecord => r.status = .waiting ∧ r.start ≤ s.time.clock ∧ s.time.clock < r.expire
    (∀ r, candidate s = some r ↔
      ∃ front back, s.list.records = front ++ r :: back ∧ eligible r ∧ ∀ q ∈ front, ¬eligible q) ∧
    (candidate s = none ↔ ∀ q ∈ s.list.records, ¬eligible q) ∧
    (s.ctrl.listState ≠ .run ∨ (∃ a, (s.drive.get a).state ≠ .on) ∨ candidate s = none ∨
      (s.ctrl.phase ≠ .none ∧ ∃ r, candidate s = some r ∧ r.options.preempt = false) → startCheck s = s) ∧
    (∀ r : TargetRecord, ListSound s.list → s.ctrl.listState = .run → (∀ a, (s.drive.get a).state = .on) →
      candidate s = some r → (s.ctrl.phase ≠ .none → r.options.preempt = true) →
      wrapChoice s.image s.time.clock s.traj.axes.az.demand r.wrap r.nodes = none →
      let entry : OutcomeEntry := ⟨s.list.nextEntry, r.id, .wrapInfeasible, none, s.time.clock, 0, 0, false⟩
      let list : ListStore :=
        { s.list with
          records := s.list.records.filter fun q => q.id != r.id
          changeCount := (s.list.changeCount + 1) % 65536
          log := placeEntry entry (if s.list.log.length < 32 then s.list.log else s.list.log.tail)
          nextEntry := if s.list.nextEntry < 4294967295 then s.list.nextEntry + 1 else 1 }
      let t : State :=
        { s with list := list, ctrl := { s.ctrl with watches := s.ctrl.watches.filter fun w => w.id != r.id } }
      startCheck s = startCheck (raise .targetEnded (if list.records = [] then raise .listEmpty t else t))) ∧
    ∀ (r : TargetRecord) (turns : Int), s.ctrl.listState = .run → (∀ a, (s.drive.get a).state = .on) →
      candidate s = some r → (s.ctrl.phase ≠ .none → r.options.preempt = true) →
      wrapChoice s.image s.time.clock s.traj.axes.az.demand r.wrap r.nodes = some turns →
      let u := if s.ctrl.phase = .none then s else closeTarget .preempted s
      let started : State :=
        { u with
          list := { u.list with
            records := u.list.records.map fun q =>
              if q.id = r.id then
                { q with
                  status := .active, actualStart := some s.time.clock
                  late := decide (r.start + s.image.periodMs * 1000 < s.time.clock) }
              else q
            changeCount := (u.list.changeCount + 1) % 65536 }
          ctrl := { u.ctrl with watches := u.ctrl.watches.filter fun w => w.id != r.id } }
      let cleared : State :=
        { started with
          corr := ⟨List.replicate s.image.ringDepth (0, 0), 0, 0, none, []⟩
          traj := { s.traj with axes := PerAxis.build fun a =>
            let x := s.traj.axes.get a
            let total := (s.corr.stack.map fun entry => entry.axes.get a).sum
            let g := match a with
              | .az => s.corr.gAz
              | .el => s.corr.gEl
              | .rot => 0
            { x with offset := x.offset - total, guide := x.guide - g, e := x.e + (total + g) } } }
      let serial := (s.ctrl.serial + 1) % 65536
      startCheck s =
        raise .targetStarted
          { cleared with
            traj := { cleared.traj with slot := some ⟨.newTrack r.id turns, serial⟩ }
            ctrl := { cleared.ctrl with
              phase := .approach, activeId := r.id, dwell := r.dwell, options := r.options
              settleTimeout := some (s.time.clock + s.image.settleTimeoutMs * 1000), settleHold := none
              dwellTimer := none, firstTrackReached := false, trackedUs := 0, trackEntry := none
              lastError := .all none, serial := serial } }

/-- The wrap choice: the turns it answers put the track, at the present ST, on one of the three candidates a − T, a and a + T;
that candidate and every node placed from it lie from AZ_LOW to AZ_HIGH; and it is the one the preference asks for among the
candidates of which that is true. It answers none exactly when there is no such candidate. -/
def Obligations.WrapChoiceIsFeasibleAndPreferred : Prop :=
  ∀ (image : SiteImage) (now : Nat) (demand : Int) (preference : WrapPreference) (nodes : List TrackNode) (az raw : Int),
    rawAzimuth now nodes = some (az, raw) →
    let a := reduceTurn raw
    let possible := fun c : Int =>
      (c = a - turn ∨ c = a ∨ c = a + turn) ∧ image.azLow ≤ c ∧ c ≤ image.azHigh ∧
      ∀ x ∈ unwrappedOffsets nodes,
        image.azLow ≤ c + (az - raw) + x.2 ∧ c + (az - raw) + x.2 ≤ image.azHigh
    (wrapChoice image now demand preference nodes = none ↔ ∀ c, ¬possible c) ∧
    ∀ turns, wrapChoice image now demand preference nodes = some turns →
      let c := raw + turns
      possible c ∧ turns % turn = 0 ∧
      match preference with
      | .nearest => ∀ d, possible d → (c - demand).natAbs < (d - demand).natAbs ∨
          ((c - demand).natAbs = (d - demand).natAbs ∧ c ≤ d)
      | .low => ∀ d, possible d → c ≤ d
      | .high => ∀ d, possible d → d ≤ c

/-- Steps 1 to 4 of an ending: the outcome entry with the present ST, the tracked time in ms with the present TRACK interval,
and what the record tells; the record gone; LIST_EMPTY when the list is then empty; the context cleared; TARGET_ENDED raised;
and an open capture record of the target marked. Steps 5 and 6: in RUN the start check is taken, and a freeze handed when no
successor has started; in HOLD a freeze is handed; neither follows LIMIT or RUN_OUT, and in STOP and STOW the ending hands
nothing. That the cleared context has dwell 0 and no options is the model's choice (log 46). -/
def Obligations.EndingLogsRemovesAndClears : Prop :=
  ∀ (outcome : OutcomeKind) (r : TargetRecord) (s : State), s.ctrl.phase ≠ .none →
    activeRecord s.ctrl.activeId s.list.records = some r →
    let us := match s.ctrl.phase, s.ctrl.trackEntry with
      | .track, some entry => s.ctrl.trackedUs + (s.time.clock - entry)
      | _, _ => s.ctrl.trackedUs
    let entry : OutcomeEntry :=
      ⟨s.list.nextEntry, r.id, outcome, r.actualStart, s.time.clock, (us + 500) / 1000, r.guideCount, r.late⟩
    let list : ListStore :=
      { s.list with
        records := s.list.records.filter fun q => q.id != r.id
        changeCount := (s.list.changeCount + 1) % 65536
        log := placeEntry entry (if s.list.log.length < 32 then s.list.log else s.list.log.tail)
        nextEntry := if s.list.nextEntry < 4294967295 then s.list.nextEntry + 1 else 1 }
    let ctrl : Controller :=
      { s.ctrl with
        phase := .none, activeId := 0, dwell := 0, options := .none, settleTimeout := none, settleHold := none
        dwellTimer := none, firstTrackReached := false, trackedUs := 0, trackEntry := none, lastError := .all none
        watches := s.ctrl.watches.filter fun w => w.id != r.id }
    let capture : Capture :=
      { s.capture with
        fifo := s.capture.fifo.map fun q =>
          if q.closing = none ∧ q.targetId = s.ctrl.activeId ∧ s.ctrl.activeId ≠ 0 then { q with targetEnded := true }
          else q }
    let t : State := { s with list := list, ctrl := ctrl, capture := capture }
    let closed := raise .targetEnded (if list.records = [] then raise .listEmpty t else t)
    closeTarget outcome s = closed ∧
    (s.ctrl.listState = .hold → outcome ≠ .limit → outcome ≠ .runOut → outcome ≠ .preempted →
      endTarget outcome s =
        { closed with
          ctrl := { ctrl with serial := (s.ctrl.serial + 1) % 65536 }
          traj := { s.traj with slot := some ⟨.freeze, (s.ctrl.serial + 1) % 65536⟩ } }) ∧
    (s.ctrl.listState = .hold → outcome = .limit ∨ outcome = .runOut → endTarget outcome s = closed) ∧
    (s.ctrl.listState = .run → outcome ≠ .preempted →
      let u := startCheck closed
      (u.ctrl.phase ≠ .none ∨ outcome = .limit ∨ outcome = .runOut → endTarget outcome s = u) ∧
      (u.ctrl.phase = .none → outcome ≠ .limit → outcome ≠ .runOut →
        endTarget outcome s =
          { u with
            ctrl := { u.ctrl with serial := (u.ctrl.serial + 1) % 65536 }
            traj := { u.traj with slot := some ⟨.freeze, (u.ctrl.serial + 1) % 65536⟩ } })) ∧
    (s.ctrl.listState = .stop ∨ s.ctrl.listState = .stow → endTarget outcome s = closed)

/-- The expiries of the target controller: a start watch is marked expired and the start check taken; the settle-hold timer in
SETTLE moves the target to TRACK, with its first-entry work done once; the settle timeout in APPROACH or SETTLE ends it
SETTLE_TIMEOUT; the dwell timer in TRACK or SETTLE ends it DONE. -/
def Obligations.TargetTimersActWhenTheyExpire : Prop :=
  ∀ s : State, s.lines.reset = false →
    (∀ (id : Half) (w : StartWatch), w ∈ s.ctrl.watches → w.id = id.toNat → w.expired = false → w.start ≤ s.time.clock →
      exec (.startWatchExpiry id) s =
        .next (startCheck
          { s with ctrl := { s.ctrl with
              watches := s.ctrl.watches.map fun x => if x.id = id.toNat then { x with expired := true } else x } })) ∧
    (∀ x, s.ctrl.settleHold = some x → x ≤ s.time.clock → s.ctrl.phase = .settle →
      let entered : Controller :=
        { s.ctrl with
          phase := .track, settleTimeout := none, settleHold := none, trackEntry := some s.time.clock }
      (s.ctrl.firstTrackReached = true → exec .settleHoldExpiry s = .next { s with ctrl := entered }) ∧
      (s.ctrl.firstTrackReached = false →
        exec .settleHoldExpiry s =
          .next (raise .settled
            { s with
              ctrl := { entered with
                firstTrackReached := true
                dwellTimer := if s.ctrl.dwell = 0 then none else some (s.time.clock + s.ctrl.dwell * 1000) }
              list := { s.list with
                records := s.list.records.map fun q =>
                  if q.id = s.ctrl.activeId then { q with firstTrack := some s.time.clock } else q } }))) ∧
    (∀ x, s.ctrl.settleTimeout = some x → x ≤ s.time.clock → s.ctrl.phase = .approach ∨ s.ctrl.phase = .settle →
      exec .settleTimeoutExpiry s = .next (endTarget .settleTimeout s)) ∧
    (∀ x, s.ctrl.dwellTimer = some x → x ≤ s.time.clock → s.ctrl.phase = .track ∨ s.ctrl.phase = .settle →
      exec .dwellExpiry s = .next (endTarget .done s))

/-- STOW and DOME_READY. A rise of STOW enters STOW from any list state, closes an active target STOWED, hands the stow
reference under a new serial and raises STOW_CHANGE; a fall in STOW enters STOP and raises STOW_CHANGE, and in another state
moves the level alone, as every edge does before VALID; a change of DOME_READY is judged for a DOME_WAIT target in SETTLE:
a fall stops the hold timer, and a rise judges the settle condition. The AZ and ROT demands of the stow reference are the
present ones (log 14). -/
def Obligations.StowAndDomeReadyAct : Prop :=
  ∀ s : State, s.lines.reset = false →
    (s.lines.stow = false → s.isValid = true →
      let raised : State :=
        { s with lines := { s.lines with stow := true }, ctrl := { s.ctrl with listState := .stow } }
      let u := if s.ctrl.phase = .none then raised else closeTarget .stowed raised
      let serial := (s.ctrl.serial + 1) % 65536
      let stow : PerAxis Int := ⟨s.traj.axes.az.demand, s.image.stowElevation, s.traj.axes.rot.demand⟩
      exec .stowRise s =
        .next (raise .stowChange
          { u with
            ctrl := { u.ctrl with serial := serial }
            traj := { u.traj with slot := some ⟨.stow stow, serial⟩ } })) ∧
    (s.lines.stow = true → s.isValid = true → s.ctrl.listState = .stow →
      exec .stowFall s =
        .next (raise .stowChange
          { s with lines := { s.lines with stow := false }, ctrl := { s.ctrl with listState := .stop } })) ∧
    (s.lines.stow = true → s.ctrl.listState ≠ .stow →
      exec .stowFall s = .next { s with lines := { s.lines with stow := false } }) ∧
    (s.isValid = false →
      exec .stowRise s = .next { s with lines := { s.lines with stow := true } } ∧
      exec .stowFall s = .next { s with lines := { s.lines with stow := false } }) ∧
    (∀ level, ¬(s.ctrl.phase = .settle ∧ s.ctrl.options.domeWait = true) →
      exec (.domeReadyChange level) s = .next { s with lines := { s.lines with domeReady := level } }) ∧
    (s.lines.domeReady = true → s.ctrl.phase = .settle → s.ctrl.options.domeWait = true →
      exec (.domeReadyChange false) s =
        .next { s with lines := { s.lines with domeReady := false }, ctrl := { s.ctrl with settleHold := none } }) ∧
    (s.lines.domeReady = false → s.ctrl.phase = .settle → s.ctrl.options.domeWait = true → s.ctrl.settleHold = none →
      0 < s.image.settleHoldMs →
      (∀ a, ∃ x, s.ctrl.lastError.get a = some x ∧ x.natAbs ≤ s.image.tolerance.get a) →
      exec (.domeReadyChange true) s =
        .next
          { s with
            lines := { s.lines with domeReady := true }
            ctrl := { s.ctrl with settleHold := some (s.time.clock + s.image.settleHoldMs * 1000) } })

/-! ## What moves only at its events -/

/-- The image in force and the rights of the ports stand through every command but power-on and the RESET line's. The list
state moves at RUN, HOLD and STOP, a STOW edge, the cuts a line or a drive brings about, the entry to VALID, and the resets,
and at no other command. The site clock decreases at no step but a PPS edge that applies a pending set, power-on and the RESET
line. -/
def Obligations.ImageListStateAndClockMoveOnlyAtTheirEvents : Prop :=
  (∀ (c : Instr) (s t : State) (image : SiteImage), s.loader.state = .valid image → c ≠ .resetAssert →
    (∀ l, c ≠ .powerOn l ∧ c ≠ .resetFall l) → exec c s = .next t →
    t.loader.state = .valid image ∧ ∀ p, (t.link.get p).rights = (s.link.get p).rights) ∧
  (∀ (c : Instr) (s t : State), exec c s = .next t → t.ctrl.listState ≠ s.ctrl.listState →
    match c with
    | .run _ _ | .hold _ _ | .stop _ _ | .restart _ _ | .stowRise | .stowFall => True
    | .powerOn _ | .resetAssert | .resetFall _ => t.ctrl.listState = .stop
    | .siteWords _ _ _ _ | .configMemoryReadEnd _ => t.ctrl.listState = .stow ∧ t.isValid = true
    | .cutSourceRise _ _ | .driveReply _ _ | .graceTimerExpiry _ | .demandInstant _ =>
      t.ctrl.listState = .stop ∧ ∃ a, (s.drive.get a).state ≠ .cut ∧ (t.drive.get a).state = .cut
    | _ => False) ∧
  ∀ s t : State, step s = .next t → t.time.clock < s.time.clock →
    ∃ c rest, s.pending = c :: rest ∧
      match c with
      | .ppsEdge => ∃ v, s.time.pendingSet = some v ∧ t.time.clock = v
      | .powerOn _ | .resetAssert | .resetFall _ => t.time.clock = 0
      | _ => False

/-! ## The time base -/

/-- SET_TIME and the expiries of the time base: a time that is not a whole second or is too late, and a list not in STOP, are
refused in that order, and otherwise the time becomes the pending set and nothing else changes; a hold that has run its
elapsed time ends; a pulse watch that expires raises TIME_FAULT, loses LOCKED and stops; and the clock at its largest value
raises TIME_FAULT and loses LOCKED, the demand timer keeping what is left of it in elapsed time. That time left is the model's
reading (log 11), and so is the marker that has the largest value reported once (log 37). -/
def Obligations.SetTimeAndTimeBaseExpiries : Prop :=
  (∀ (p : Port) (tag : Byte) (time : SiteTimeWord) (s : State), Served .setTime p s →
    let bad := time.toNat % 1000000 ≠ 0 ∨ 281474976000000 < time.toNat
    (bad → exec (.setTime p tag time) s = refusedBy .setTime p tag (bytes6 time) .badValue s) ∧
    (¬bad → s.ctrl.listState ≠ .stop →
      exec (.setTime p tag time) s = refusedBy .setTime p tag (bytes6 time) .wrongState s) ∧
    (¬bad → s.ctrl.listState = .stop →
      exec (.setTime p tag time) s =
        acceptedBy .setTime p tag (bytes6 time) (.timeSet time.toNat s.time.status)
          (fun t => { t with time := { s.time with pendingSet := some time.toNat } }) s)) ∧
  ∀ s : State, s.lines.reset = false →
    let lost : ClockStatus := if s.time.status = .locked then .free else s.time.status
    (∀ x, s.time.holdEnd = some x → x ≤ s.time.elapsed →
      exec .ppsHoldEnd s = .next { s with time := { s.time with holdEnd := none } }) ∧
    (∀ x, s.time.pulseWatch = some x → x ≤ s.time.clock →
      exec .pulseWatchExpiry s =
        .next (raise .timeFault { s with time := { s.time with status := lost, pulseWatch := none } })) ∧
    (s.time.clock = 281474976710655 → s.time.largestReported = false →
      (∀ n, s.time.nextInstant = .atSiteTime n →
        exec .clockAtLargestValue s =
          .next (raise .timeFault
            { s with time := { s.time with
                status := lost, largestReported := true
                nextInstant := .atElapsed (s.time.elapsed + (n - s.time.clock)) } })) ∧
      ∀ n, s.time.nextInstant = .atElapsed n →
        exec .clockAtLargestValue s =
          .next (raise .timeFault { s with time := { s.time with status := lost, largestReported := true } }))

/-- A PPS edge. On an UNSET clock with no set pending it does nothing. With none pending it disciplines: f = 0 leaves the
clock, a fast clock is held for f µs, a slow one steps to the next second, each becoming LOCKED; a pulse watch whose expiry the
step reaches or passes raises TIME_FAULT at it; outside the window the clock becomes FREE, uncorrected, with TIME_FAULT. With a set pending the clock takes it and becomes FREE, the timer is realigned,
running durations keep what is left of them, and named times are judged against the new value; after a forward set no WAITING
record is left whose expire time is reached. The model's readings: a watch whose start lies ahead of the new clock runs again
(log 22), the marker of the largest value is cleared (log 37), a step of discipline moves the time base alone and the expiries of
other blocks it passes over follow as commands of their own (log 40), a clock whose pulse watch the step passes is LOCKED and
watched anew after it (log 47), and the offset recorded at f = 0 is 0 (log 43). -/
def Obligations.PpsEdgeDisciplinesOrSetsTheClock : Prop :=
  ∀ s : State, s.lines.reset = false →
    (s.time.pendingSet = none → s.time.status = .unset → exec .ppsEdge s = .next s) ∧
    (s.time.pendingSet = none → s.time.status ≠ .unset →
      let f := s.time.clock % 1000000
      let locked : TimeBase := { s.time with status := .locked, holdEnd := none }
      (f = 0 →
        exec .ppsEdge s = .next
          { s with time := { locked with lastOffset := some 0, pulseWatch := some (s.time.clock + 1100000) } }) ∧
      (1 ≤ f → f ≤ 100 →
        exec .ppsEdge s = .next
          { s with time := { locked with
              lastOffset := some (f : Int), pulseWatch := some (s.time.clock + 1100000)
              holdEnd := some (s.time.elapsed + f) } }) ∧
      (999900 ≤ f →
        let t : State :=
          { s with time := { locked with
              lastOffset := some ((f : Int) - 1000000), clock := s.time.clock + (1000000 - f)
              pulseWatch := some (s.time.clock + (1000000 - f) + 1100000) } }
        let passed := ∃ x, s.time.pulseWatch = some x ∧ x ≤ s.time.clock + (1000000 - f)
        (passed → exec .ppsEdge s = .next (raise .timeFault t)) ∧ (¬passed → exec .ppsEdge s = .next t)) ∧
      (100 < f → f < 999900 →
        exec .ppsEdge s = .next (raise .timeFault
          { s with time := { s.time with
              status := .free, holdEnd := none, pulseWatch := some (s.time.clock + 1100000)
              lastOffset := some (if f < 500000 then (f : Int) else (f : Int) - 1000000) } }))) ∧
    ∀ v, s.time.pendingSet = some v →
      let moved := fun x : Option Nat => x.map fun n => ((n : Int) + ((v : Int) - (s.time.clock : Int))).toNat
      let time : TimeBase :=
        { s.time with
          clock := v, status := .free, pendingSet := none, holdEnd := none, pulseWatch := some (v + 1100000)
          lastOffset := none, largestReported := false
          nextInstant := .atSiteTime ((v / (s.image.periodMs * 1000) + 1) * (s.image.periodMs * 1000)) }
      ((∀ r ∈ s.list.records, r.status = .waiting → v < r.expire) →
        (∀ w ∈ s.ctrl.watches, w.expired = true ∨ v < w.start) →
        exec .ppsEdge s = .next
          { s with
            time := time
            ctrl := { s.ctrl with
              settleTimeout := moved s.ctrl.settleTimeout, settleHold := moved s.ctrl.settleHold
              dwellTimer := moved s.ctrl.dwellTimer
              watches := s.ctrl.watches.map fun w => { w with expired := decide (w.start ≤ v) } }
            drive := s.drive.map fun d => { d with brakeTimer := moved d.brakeTimer, grace := moved d.grace } }) ∧
      (ListSound s.list → s.time.clock < v →
        ∃ t, exec .ppsEdge s = .next t ∧ t.time = time ∧
          ∀ r ∈ t.list.records, r.status = .waiting → v < r.expire)

/-! ## The trajectory unit -/

/-- A demand instant. One that is not due moves the GUST level alone (log 5). One that is due, under FREEZE or STOW with the slot
empty, the arrival watch spent, no frame open and no axis braking: the instant is recorded, the profile selected, the demand
timer moved on; an ON or STOPPING axis takes the step rule under the limits of the profile and its demand is its source
reference plus e; a CUT axis follows its last actual; the others stand; the demand step is what the demand moved; and, once
VALID, each axis is sent its frame. Under TRACK, an instant never leaves the source TRACK with a source reference outside the
limits or the instant more than 300 s past the last node. The model's readings: the time of an instant passed over (log 10), the
timer after it (log 11), the order of the work (log 9), the demand a step counts from (log 14), a CUT axis without a last actual
(log 24), and a correction taken before the instant, which its step rule acts on (log 50). -/
def Obligations.DemandInstantMovesAxesWithinTheLimits : Prop :=
  ∀ (gust : Bool) (s : State), s.lines.reset = false →
    (s.instantDue = false → exec (.demandInstant gust) s = .next { s with lines := { s.lines with gust := gust } }) ∧
    (InstantDue s → s.traj.source = .freeze ∨ s.traj.source = .stow → s.traj.slot = none → s.traj.arrivalSet = false →
      (∀ a, (s.drive.get a).state ≠ .stopping .braking) →
      exec (.demandInstant gust) s = .next (afterInstant gust s.list s.traj s)) ∧
    (s.instantDue = true → ∀ t, exec (.demandInstant gust) s = .next t →
      t.traj.lastInstant = some (instantTime s.time) ∧ t.traj.profile = instantProfile gust s ∧
      ∀ c, t.traj.source = .track c →
        instantTime s.time ≤ c.lastNodeTime + 300000000 ∧ ¬Outside t.image t.traj.axes)

/-- What an instant adopts from the slot, which it empties, taking its serial and setting the arrival watch. A freeze gives each
ON axis its stop point and stops a held axis at its demand. A stow reference puts the source reference at the value handed, e
of an ON axis at what is left. A new track places node 0 by its turns and each later node from the one before, takes the last
node due into force, consumes those before it, and puts each base at the track value, e of an ON axis at what is left; within
the limits and its run-out it is followed. With no ACTIVE record of its id a freeze is adopted in its place. An axis in STOPPING
keeps its stop point (under TRACK, log 34). Logs 9, 10, 11, 14, 24, 50 as in the statement of the demand instant. -/
def Obligations.DemandInstantAdoptsWhatTheSlotHolds : Prop :=
  ∀ (gust : Bool) (h : HandOver) (s : State), InstantDue s → s.traj.slot = some h →
    let now := instantTime s.time
    let adopted := fun traj : Trajectory => { traj with slot := none, adoptedSerial := h.serial, arrivalSet := true }
    let based := fun (value : PerAxis Int) (terms : Bool) =>
      PerAxis.build fun a =>
        let x := s.traj.axes.get a
        let base := if terms = true then value.get a - x.offset - x.guide else value.get a
        match (s.drive.get a).state with
        | .on => { x with base := base, e := x.demand - (base + x.offset + x.guide) }
        | .off | .releasing | .cut => { x with base := base }
        | .stopping _ => x
    (h.content = .freeze → InstantLeaves gust s.list (adopted (frozenTraj gust s)) s) ∧
    (∀ values, h.content = .stow values →
      InstantLeaves gust s.list (adopted { s.traj with axes := based values true, source := .stow }) s) ∧
    ∀ id turns, h.content = .newTrack id turns →
      ((∀ r ∈ s.list.records, r.id = id → r.status ≠ .active) →
        InstantLeaves gust s.list (adopted (frozenTraj gust s)) s) ∧
      ∀ r n0 rest, ListSound s.list → r ∈ s.list.records → r.id = id → r.status = .active → r.nodes = n0 :: rest →
        let passed := dueNodes now rest
        let c := passedBy passed ⟨id, n0, n0.pos.az + turns, finalTime r.nodes⟩
        let axes := based (PerAxis.build (valueAt c now)) false
        now ≤ finalTime r.nodes + 300000000 → ¬Outside s.image axes →
          InstantLeaves gust (consumed id passed.length s.list)
            (adopted { s.traj with axes := axes, source := .track c }) s

/-- Under TRACK with the slot empty, each node due is switched to in order and consumed: the base is the new node's value, the
residual of an ON axis takes the old value less the new, and the last node time is read from the record. With no ACTIVE record
of the track's id the node in force stands and the base is its value. Both for an instant within run-out and the limits. Logs
9, 10, 11, 14, 24, 34, 50 as in the statement of adoption. -/
def Obligations.DemandInstantSwitchesNodes : Prop :=
  ∀ (gust : Bool) (c : TrackContext) (s : State), InstantDue s → s.traj.source = .track c → s.traj.slot = none →
    let now := instantTime s.time
    let following := fun c' =>
      PerAxis.build fun a =>
        let x := s.traj.axes.get a
        match (s.drive.get a).state with
        | .on => { x with base := valueAt c' now a, e := x.e + (valueAt c now a - valueAt c' now a) }
        | .off | .releasing | .cut => { x with base := valueAt c' now a }
        | .stopping _ => x
    (∀ r n rest, ListSound s.list → r ∈ s.list.records → r.id = c.id → r.status = .active → r.nodes = n :: rest →
      let passed := dueNodes now rest
      let c' := { passedBy passed c with lastNodeTime := finalTime r.nodes }
      now ≤ finalTime r.nodes + 300000000 → ¬Outside s.image (following c') →
        InstantLeaves gust (consumed c.id passed.length s.list)
          { s.traj with axes := following c', source := .track c' } s) ∧
    ((∀ r ∈ s.list.records, r.id = c.id → r.status ≠ .active) → now ≤ c.lastNodeTime + 300000000 →
      ¬Outside s.image (following c) → InstantLeaves gust s.list { s.traj with axes := following c } s)

/-- The silence check of an instant, under FREEZE or STOW with the slot empty, the watch spent and no axis braking. Each axis
whose frame is still open counts one more, to 3 at most, and its frame is closed; DRIVE_SILENT is raised when one counts from 0.
Where one frame alone is open, on an axis that its third silence cuts, DRIVE_LOSS cuts it and OTHER_CUT the others that select
it, all moved and framed as CUT axes; CUT_OFF is raised; and a list in RUN or HOLD enters STOP, closes an active target CUT and
hands a freeze. The model takes AZ, EL and ROT in turn (log 42) and the check before the moves (log 9); an axis with no last
actual keeps its demand (log 24), and one cut out of STOPPING its base (log 48). The state that the moves leave has the time of
an instant passed over (log 10), the timer after it (log 11), the demand a step counts from (log 14) and the step rule's part in
a correction just taken (log 50). -/
def Obligations.DemandInstantCountsSilence : Prop :=
  ∀ (gust : Bool) (s : State), s.lines.reset = false → s.instantDue = true →
    s.traj.source = .freeze ∨ s.traj.source = .stow → s.traj.slot = none → s.traj.arrivalSet = false →
    (∀ a, (s.drive.get a).state ≠ .stopping .braking) →
    let counted := fun d : DriveAxis =>
      if d.openFrame.isSome = true then { d with silence := min 3 (d.silence + 1), openFrame := none } else d
    let lost := fun a =>
      (s.drive.get a).openFrame.isSome = true ∧ (s.drive.get a).silence = 2 ∧ (s.drive.get a).state.canCut = true ∧
      (s.drive.get a).cutMask.getLsbD 4 = true
    let moved := fun t : State => afterInstant gust t.list t.traj t
    ((∀ a, ¬lost a) →
      let t : State := { s with drive := s.drive.map counted }
      ((∃ a, (s.drive.get a).openFrame.isSome = true ∧ (s.drive.get a).silence = 0) →
        exec (.demandInstant gust) s = .next (moved (raise .driveSilent t))) ∧
      ((∀ a, (s.drive.get a).openFrame.isSome = true → (s.drive.get a).silence ≠ 0) →
        exec (.demandInstant gust) s = .next (moved t))) ∧
    ∀ a, lost a → (∀ b, b ≠ a → (s.drive.get b).openFrame = none) →
      let cut := fun (cause : CutSource) (d : DriveAxis) =>
        { d with
          state := .cut, enable := false, brake := false, brakeTimer := none, grace := none, lastCause := some cause }
      let t : State :=
        { s with drive := PerAxis.build fun b =>
            let d := s.drive.get b
            if b = a then cut .driveLoss { d with silence := 3, openFrame := none }
            else if d.state.canCut = true ∧ d.cutMask.getLsbD 7 = true then cut .otherCut d
            else d }
      let stopped : State := { t with ctrl := { s.ctrl with listState := .stop } }
      let handed := fun u : State =>
        { u with
          ctrl := { u.ctrl with serial := (s.ctrl.serial + 1) % 65536 }
          traj := { u.traj with slot := some ⟨.freeze, (s.ctrl.serial + 1) % 65536⟩ } }
      (s.ctrl.listState = .stop ∨ s.ctrl.listState = .stow →
        exec (.demandInstant gust) s = .next (raise .cutOff (moved t))) ∧
      (s.ctrl.listState = .run ∨ s.ctrl.listState = .hold →
        (s.ctrl.phase = .none → exec (.demandInstant gust) s = .next (raise .cutOff (handed (moved stopped)))) ∧
        (s.ctrl.phase ≠ .none →
          exec (.demandInstant gust) s = .next (raise .cutOff (handed (moved (closeTarget .cut stopped))))))

/-- What an instant reports. Run-out of a track and a reference outside the limits freeze the unit at the instant, the latter
raising LIMIT_END, and end the active target RUN_OUT or LIMIT when the adopted serial is the latest; the arrival watch is spent
if every axis then rests. An axis braking that rests enters the setting part of STOPPING, its brake output deasserted and
the brake timer running, or OFF with an interval of 0. An arrival under the latest serial moves a target in APPROACH to SETTLE
and judges the settle condition: the hold timer starts, or stays stopped; with a hold time of 0 the target enters TRACK as at
the expiry of the timer. So it is under FREEZE and STOW, under TRACK within run-out and the limits with the nodes due switched
to, and at the instant that adopts a new track. The work comes in the order of log 9 and the reports in that of log 30; that a
setting part of 0 ends at once is log 23; the time of the instant is logs 10 and 11, the demand and step of an axis logs 14, 24
and 50, and an axis in STOPPING under TRACK log 34. -/
def Obligations.InstantReportsEndingsRestAndArrival : Prop :=
  ∀ (gust : Bool) (s : State), InstantDue s →
    let now := instantTime s.time
    let ended := fun (outcome : OutcomeKind) (serial : Nat) (u : State) =>
      let closed := if serial = s.ctrl.serial ∧ s.ctrl.phase ≠ .none then endTarget outcome u else u
      let v := restReported u closed
      ((∃ a, ¬Rests u a) → exec (.demandInstant gust) s = .next v) ∧
      ((∀ a, Rests u a) → exec (.demandInstant gust) s = .next (watchSpent v))
    (s.traj.slot = none → s.traj.source = .freeze ∨ s.traj.source = .stow → InstantReports gust s.list s.traj s) ∧
    (∀ c r n rest, s.traj.slot = none → s.traj.source = .track c → ListSound s.list → r ∈ s.list.records → r.id = c.id →
      r.status = .active → r.nodes = n :: rest →
      let passed := dueNodes now rest
      let list := consumed c.id passed.length s.list
      let c' := { passedBy passed c with lastNodeTime := finalTime r.nodes }
      let axes := followedAxes now c c' s
      let u := afterInstant gust list (frozenTraj gust s) s
      (finalTime r.nodes + 300000000 < now → ended .runOut s.traj.adoptedSerial u) ∧
      (now ≤ finalTime r.nodes + 300000000 → Outside s.image axes →
        ended .limit s.traj.adoptedSerial (raise .limitEnd u)) ∧
      (now ≤ finalTime r.nodes + 300000000 → ¬Outside s.image axes →
        InstantReports gust list { s.traj with axes := axes, source := .track c' } s)) ∧
    ∀ h id turns r n rest, s.traj.slot = some h → h.content = .newTrack id turns → ListSound s.list →
      r ∈ s.list.records → r.id = id → r.status = .active → r.nodes = n :: rest →
      let passed := dueNodes now rest
      let list := consumed id passed.length s.list
      let c := passedBy passed ⟨id, n, n.pos.az + turns, finalTime r.nodes⟩
      let axes := joinedAxes now c s
      let adopted := fun traj : Trajectory => { traj with slot := none, adoptedSerial := h.serial, arrivalSet := true }
      let u := afterInstant gust list (adopted (frozenTraj gust s)) s
      (finalTime r.nodes + 300000000 < now → ended .runOut h.serial u) ∧
      (now ≤ finalTime r.nodes + 300000000 → Outside s.image axes → ended .limit h.serial (raise .limitEnd u)) ∧
      (now ≤ finalTime r.nodes + 300000000 → ¬Outside s.image axes →
        InstantReports gust list (adopted { s.traj with axes := axes, source := .track c }) s)

/-- READ_PREDICT, FORCE_GUST and CLEAR_FORCE. A lead above 10,000 is refused; otherwise the AZ source reference at the last
demand instant plus the lead, reduced into [0, T), the EL source reference, the time, the source and whether it lies beyond
run-out are answered, and nothing changes. Under TRACK the node is the last of the active record at or before that time, from
the node in force on, placed from each node to the next by the reduced difference of their azimuths; with no ACTIVE record of
the track's id it is the node in force. Before the first instant the time is the model's free value (log 12). The latch takes
its value and nothing else changes. -/
def Obligations.PointingRequestsPredictAndLatch : Prop :=
  ∀ (p : Port) (tag : Byte) (s : State),
    (∀ lead : Half, Served .readPredict p s →
      let answers := fun data => exec (.readPredict p tag lead) s = acceptedBy .readPredict p tag (bytes2 lead) data id s
      let terms := fun a => (s.traj.axes.get a).offset + (s.traj.axes.get a).guide
      (10000 < lead.toNat →
        exec (.readPredict p tag lead) s = refusedBy .readPredict p tag (bytes2 lead) .badValue s) ∧
      (lead.toNat ≤ 10000 →
        (s.traj.lastInstant = none → ∃ az el time beyond, answers (.predict az el time s.traj.source.kind beyond)) ∧
        ∀ now, s.traj.lastInstant = some now →
          let then' := now + lead.toNat * 1000
          (s.traj.source = .freeze ∨ s.traj.source = .stow →
            answers (.predict ((s.traj.axes.az.base + terms .az) % 129600000) (s.traj.axes.el.base + terms .el) then'
              s.traj.source.kind false)) ∧
          ∀ c, s.traj.source = .track c →
            let c' := contextAt then' c s
            let value := fun (position rate : Int) =>
              position + roundDiv (rate * ((then' : Int) - (c'.node.time : Int))) 256000000
            answers
              (.predict ((value c'.unwrapped c'.node.rate.az + terms .az) % 129600000)
                (value c'.node.pos.el c'.node.rate.el + terms .el) then' .track
                (decide (c'.lastNodeTime + 300000000 < then'))) ∧
            (∀ r, ListSound s.list → r ∈ s.list.records → r.id = c.id → r.status = .active →
              c' = { passedBy (r.nodes.filter fun n => decide (c.node.time < n.time ∧ n.time ≤ then')) c with
                lastNodeTime := finalTime r.nodes } ∧
              (c'.node = c.node ∨ (c'.node ∈ r.nodes ∧ c.node.time < c'.node.time ∧ c'.node.time ≤ then')) ∧
              ∀ n ∈ r.nodes, n.time ≤ then' → c.node.time < n.time → n.time ≤ c'.node.time) ∧
            ((∀ r ∈ s.list.records, r.id = c.id → r.status ≠ .active) → c' = c))) ∧
    (Served .forceGust p s →
      exec (.forceGust p tag) s =
        acceptedBy .forceGust p tag [] (.force true s.lines.gust)
          (fun t => { t with traj := { s.traj with forceGust := true } }) s) ∧
    (Served .clearForce p s →
      exec (.clearForce p tag) s =
        acceptedBy .clearForce p tag [] (.force false s.lines.gust)
          (fun t => { t with traj := { s.traj with forceGust := false } }) s)

/-- Braking. The braking distance is the sum of s − a, s − 2a and so on, down to the last that is not negative, 0 for every
s ≤ a, with the two identities the other rules use. One instant of braking takes a from the size of w, or makes w 0, and adds
the new w to e; an axis that begins braking at speed u with residual e₀ comes to rest with |e| = |e₀| + B(u), on the side of
the reference it moves to. While a stands, the step rule brakes an axis at the stop point of a freeze by exactly a an instant,
keeping what is left to the stop point equal to the braking distance of its speed, and brings it to rest there. -/
def Obligations.BrakingFollowsTheBrakingDistance : Prop :=
  (∀ a s : Nat, 1 ≤ a →
    brakingDistance a s = (s / a) * s - a * (s / a) * (s / a + 1) / 2 ∧
    brakingDistance a s = ((List.range (s / a)).map fun i => s - (i + 1) * a).sum ∧
    (s ≤ a → brakingDistance a s = 0) ∧
    brakingDistance a (s + a) = brakingDistance a s + s ∧
    (a < s → brakingDistance a s = (s - a) + brakingDistance a (s - a))) ∧
  (∀ (a v : Nat) (e w : Int), 1 ≤ a → w ≠ 0 →
    (e = 0 ∧ (a : Int) < w.natAbs) ∨ (0 < e ∧ 0 < w) ∨ (e < 0 ∧ w < 0) →
    let w' := signOf w * ((w.natAbs - a : Nat) : Int)
    stepRule a v ⟨e, w⟩ = ⟨e + w', w'⟩ ∧
    ∃ n, n ≤ w.natAbs ∧
      steps a v n ⟨e, w⟩ = ⟨signOf w * ((e.natAbs + brakingDistance a w.natAbs : Nat) : Int), 0⟩) ∧
  ∀ (a v : Nat) (w : Int), 1 ≤ a →
    (∀ k, let w' := signOf w * ((w.natAbs - k * a : Nat) : Int)
      steps a v k ⟨-brakingTravel a w, w⟩ = ⟨-brakingTravel a w', w'⟩) ∧
    steps a v w.natAbs ⟨-brakingTravel a w, w⟩ = ⟨0, 0⟩

/-- From rest at any residual, under limits that stand, the step rule brings the axis to rest on the reference, and the
residual never leaves the interval between its first value and zero on the way. -/
def Obligations.ApproachFromRestReachesTheReference : Prop :=
  ∀ (a v : Nat) (e : Int), 1 ≤ a → a ≤ v →
    ∃ n, n ≤ e.natAbs + 1 ∧ steps a v n ⟨e, 0⟩ = ⟨0, 0⟩ ∧
      ∀ k, k ≤ n → let r := (steps a v k ⟨e, 0⟩).e
        (0 ≤ e → 0 ≤ r ∧ r ≤ e) ∧ (e ≤ 0 → e ≤ r ∧ r ≤ 0)

/-- The generator step of an axis driven before and after a command changes by at most the amax of the profile in force at a
demand instant, and at no other command. -/
def Obligations.GeneratorStepChangesWithinAmax : Prop :=
  ∀ (c : Instr) (s t : State) (a : Axis), exec c s = .next t → s.driven a = true → t.driven a = true →
    let change := ((t.traj.axes.get a).w - (s.traj.axes.get a).w).natAbs
    match c with
    | .demandInstant _ => change ≤ (t.limits.get a).amax
    | _ => change = 0

/-! ## The correction unit -/

/-- GUIDE_SAMPLE is refused outside TRACK and without the GUIDE option; an accepted one enters the ring, is filtered,
transformed, clamped to the step limit and added to G within the guide range; the guide terms move by the applied pair and the
residual of each driven axis by the opposite, no demand moving; the result is recorded and the sample counted in the record and
in an open capture record of the target; GUIDE_LIMITED is raised when any flag is set. GUIDE_RESET zeroes the ring alone. The
angles are those of the present demands (log 14). -/
def Obligations.GuideRequestsFilterAndClamp : Prop :=
  ∀ (p : Port) (tag : Byte) (s : State),
    (Unconfigured p s →
      (∀ dx dy : Half,
        exec (.guideSample p tag dx dy) s = refusedBy .guideSample p tag (bytes2 dx ++ bytes2 dy) .notConfigured s) ∧
      exec (.guideReset p tag) s = refusedBy .guideReset p tag [] .notConfigured s) ∧
    (∀ dx dy : Half, Served .guideSample p s →
      let refuses := fun code =>
        exec (.guideSample p tag dx dy) s = refusedBy .guideSample p tag (bytes2 dx ++ bytes2 dy) code s
      let ring := ((dx.toInt, dy.toInt) :: s.corr.ring).take s.image.ringDepth
      let fx := roundDiv (List.zipWith (· * ·) s.image.coefficients (ring.map (·.1))).sum 256
      let fy := roundDiv (List.zipWith (· * ·) s.image.coefficients (ring.map (·.2))).sum 256
      let m := transformAt (s.traj.axes.rot.demand + s.image.guiderAngle) s.traj.axes.el.demand fx fy
      let held := fun (bound : Nat) (x : Int) => max (-(bound : Int)) (min (bound : Int) x)
      let cAz := held s.image.stepLimit m.az
      let cEl := held s.image.stepLimit m.el
      let gAz := held s.image.guideRange (s.corr.gAz + cAz)
      let gEl := held s.image.guideRange (s.corr.gEl + cEl)
      let dAz := gAz - s.corr.gAz
      let dEl := gEl - s.corr.gEl
      let flags : GuideFlags := ⟨m.capped, cAz != m.az || cEl != m.el, dAz != cAz || dEl != cEl⟩
      let moved := fun (a : Axis) (d : Int) =>
        let x := s.traj.axes.get a
        { x with guide := x.guide + d, e := if s.driven a = true then x.e - d else x.e }
      let taken := fun t : State =>
        { t with
          corr := { s.corr with ring := ring, gAz := gAz, gEl := gEl, lastGuide := some ⟨s.time.clock, dAz, dEl, flags⟩ }
          traj := { s.traj with axes := ⟨moved .az dAz, moved .el dEl, s.traj.axes.rot⟩ }
          list := { s.list with
            records := s.list.records.map fun r =>
              if r.id = s.ctrl.activeId then
                { r with guideCount := if r.guideCount < 65535 then r.guideCount + 1 else 65535 }
              else r }
          capture := { s.capture with
            fifo := s.capture.fifo.map fun r =>
              if r.closing = none ∧ r.targetEnded = false ∧ r.targetId ≠ 0 ∧ s.ctrl.activeId = r.targetId then
                { r with guideCount := if r.guideCount < 65535 then r.guideCount + 1 else 65535 }
              else r } }
      (s.ctrl.phase ≠ .track → refuses .notTracking) ∧
      (s.ctrl.phase = .track → s.ctrl.options.guide = false → refuses .guideOff) ∧
      (s.ctrl.phase = .track → s.ctrl.options.guide = true →
        exec (.guideSample p tag dx dy) s =
          acceptedBy .guideSample p tag (bytes2 dx ++ bytes2 dy)
            (.guided ⟨(fx, fy), (m.az, m.el), (dAz, dEl), flags, gAz, gEl⟩)
            (fun t =>
              if flags.secantCapped = true ∨ flags.stepClamped = true ∨ flags.saturated = true then
                raise .guideLimited (taken t)
              else taken t) s)) ∧
    (Served .guideReset p s →
      exec (.guideReset p tag) s =
        acceptedBy .guideReset p tag [] (.ringReset s.image.ringDepth)
          (fun t => { t with corr := { s.corr with ring := List.replicate s.image.ringDepth (0, 0) } }) s)

/-- PUSH_OFFSET, POP_OFFSET and CLEAR_OFFSETS: their refusals in order, and the accepted ones: the stack changes at its top,
each offset term by the change of its total and the residual of each driven axis by the opposite, no demand moving; when a
total changed, a target in SETTLE or TRACK goes back to waiting in SETTLE with the settle timeout restarted and the hold
stopped, the time in TRACK added to the tracked time. The angles are those of the present demands (log 14). -/
def Obligations.OffsetRequestsMoveTheTerms : Prop :=
  ∀ (p : Port) (tag : Byte) (s : State),
    let resettled : Controller :=
      match s.ctrl.phase with
      | .none | .approach => s.ctrl
      | .settle =>
        { s.ctrl with settleHold := none, settleTimeout := some (s.time.clock + s.image.settleTimeoutMs * 1000) }
      | .track =>
        { s.ctrl with
          phase := .settle
          trackedUs := match s.ctrl.trackEntry with
            | some entry => s.ctrl.trackedUs + (s.time.clock - entry)
            | none => s.ctrl.trackedUs
          trackEntry := none, settleHold := none
          settleTimeout := some (s.time.clock + s.image.settleTimeoutMs * 1000) }
    let changed := fun (stack : List OffsetEntry) (change : PerAxis Int) (t : State) =>
      { t with
        corr := { s.corr with stack := stack }
        traj := { s.traj with
          axes := PerAxis.build fun a =>
            let x := s.traj.axes.get a
            { x with
              offset := x.offset + change.get a
              e := if s.driven a = true then x.e - change.get a else x.e } }
        ctrl := if change = ⟨0, 0, 0⟩ then s.ctrl else resettled }
    (Unconfigured p s →
      (∀ dx dy drot : Word,
        exec (.pushOffset p tag dx dy drot) s =
          refusedBy .pushOffset p tag (bytes4 dx ++ bytes4 dy ++ bytes4 drot) .notConfigured s) ∧
      exec (.popOffset p tag) s = refusedBy .popOffset p tag [] .notConfigured s ∧
      exec (.clearOffsets p tag) s = refusedBy .clearOffsets p tag [] .notConfigured s) ∧
    (∀ dx dy drot : Word, Served .pushOffset p s →
      let payload := bytes4 dx ++ bytes4 dy ++ bytes4 drot
      let refuses := fun code => exec (.pushOffset p tag dx dy drot) s = refusedBy .pushOffset p tag payload code s
      let m := transformAt (s.traj.axes.rot.demand + s.image.guiderAngle) s.traj.axes.el.demand dx.toInt dy.toInt
      let axes : PerAxis Int := ⟨m.az, m.el, drot.toInt⟩
      let stack := ⟨dx.toInt, dy.toInt, drot.toInt, axes, m.capped⟩ :: s.corr.stack
      let bad := 3600000 < dx.toInt.natAbs ∨ 3600000 < dy.toInt.natAbs ∨ 3600000 < drot.toInt.natAbs
      let fits := ∀ a, ((stackTotals stack).get a).natAbs ≤ s.image.offsetRange
      (bad → refuses .badValue) ∧
      (¬bad → s.ctrl.phase = .none → refuses .notTracking) ∧
      (¬bad → s.ctrl.phase ≠ .none → 4 ≤ s.corr.stack.length → refuses .stackFull) ∧
      (¬bad → s.ctrl.phase ≠ .none → s.corr.stack.length < 4 → ¬fits → refuses .offsetRange) ∧
      (¬bad → s.ctrl.phase ≠ .none → s.corr.stack.length < 4 → fits →
        exec (.pushOffset p tag dx dy drot) s =
          acceptedBy .pushOffset p tag payload (.pushed (s.corr.stack.length + 1) axes m.capped (stackTotals stack))
            (changed stack axes) s)) ∧
    (Served .popOffset p s →
      let refuses := fun code => exec (.popOffset p tag) s = refusedBy .popOffset p tag [] code s
      (s.ctrl.phase = .none → refuses .notTracking) ∧
      (s.ctrl.phase ≠ .none → s.corr.stack = [] → refuses .stackEmpty) ∧
      ∀ top rest, s.ctrl.phase ≠ .none → s.corr.stack = top :: rest →
        exec (.popOffset p tag) s =
          acceptedBy .popOffset p tag [] (.popped top rest.length (stackTotals rest))
            (changed rest ⟨-top.axes.az, -top.axes.el, -top.axes.rot⟩) s) ∧
    (Served .clearOffsets p s →
      let totals := stackTotals s.corr.stack
      (s.ctrl.phase = .none → exec (.clearOffsets p tag) s = refusedBy .clearOffsets p tag [] .notTracking s) ∧
      (s.ctrl.phase ≠ .none →
        exec (.clearOffsets p tag) s =
          acceptedBy .clearOffsets p tag [] (.cleared s.corr.stack.length ⟨0, 0, 0⟩)
            (changed [] ⟨-totals.az, -totals.el, -totals.rot⟩) s))

/-! ## The drive controller -/

/-- ENABLE_AXES: its refusals in the order of R131; an accepted one enters RELEASING for each named axis that is OFF or CUT, in
order, and no other axis changes. Entering RELEASING asserts both outputs, stops the grace timer, starts the brake timer, holds
the axis at its last actual position with e and w 0, and resets its source reference: there under FREEZE, and under STOW there for
AZ and ROT and at the stow elevation for EL; an interval of 0 ends at once with the axis ON. The model's readings: the next
demand step of an axis released from OFF counts from that position (log 14), a stop point of EL is discarded under STOW
(log 34), and the demand is kept when the last actual is absent (log 24). -/
def Obligations.EnableAxesReleasesTheNamedAxes : Prop :=
  (∀ (p : Port) (tag mask : Byte) (s : State), Unconfigured p s →
    exec (.enableAxes p tag mask) s = refusedBy .enableAxes p tag [mask, 0] .notConfigured s) ∧
  (∀ (p : Port) (tag mask : Byte) (s : State), Served .enableAxes p s →
    let refuses := fun code => exec (.enableAxes p tag mask) s = refusedBy .enableAxes p tag [mask, 0] code s
    let bad := mask.toNat = 0 ∨ 7 < mask.toNat
    let named := fun a => mask.getLsbD (axisNumber a) = true
    let down := fun a => (s.drive.get a).state = .off ∨ (s.drive.get a).state = .cut
    let blocked := ∃ a, named a ∧
      ((∃ part, (s.drive.get a).state = .stopping part) ∨ (down a ∧ (s.drive.get a).lastActual = none))
    let otherCut := ∃ b, ¬named b ∧ (s.drive.get b).state = .cut
    let active := ∃ a, named a ∧ down a ∧
      let m := (s.drive.get a).cutMask
      (s.lines.estop = true ∨ (s.lines.interlock = true ∧ m.getLsbD 0 = true) ∨
        (s.lines.azLimit = true ∧ m.getLsbD 1 = true) ∨ (s.lines.elLimit = true ∧ m.getLsbD 2 = true) ∨
        (s.lines.rotLimit = true ∧ m.getLsbD 3 = true) ∨ ((s.drive.get a).silence = 3 ∧ m.getLsbD 4 = true) ∨
        ((s.drive.get a).lastStatus = some .fault ∧ m.getLsbD 5 = true) ∨
        ((s.drive.get a).following = true ∧ m.getLsbD 6 = true) ∨ (otherCut ∧ m.getLsbD 7 = true))
    (bad → refuses .badValue) ∧
    (¬bad → blocked → refuses .wrongState) ∧
    (¬bad → ¬blocked → active → refuses .sourceActive) ∧
    (¬bad → ¬blocked → ¬active → ∃ axes : List Axis,
      (∀ a, a ∈ axes ↔ named a ∧ down a) ∧ axes.Sublist [.az, .el, .rot] ∧
      let released := fun t : State => axes.foldl (fun u a => enterReleasing a u) t
      exec (.enableAxes p tag mask) s =
        acceptedBy .enableAxes p tag [mask, 0]
          (.axisStates ((released (received p (requestFrame .enableAxes tag [mask, 0]) s)).drive.map (·.state)))
          released s)) ∧
  ∀ (a : Axis) (s : State),
    let d := s.drive.get a
    let x := s.traj.axes.get a
    let demand := d.lastActual.getD x.demand
    let base := fun (value : Int) => value - x.offset - x.guide
    let t : State :=
      { s with
        drive := s.drive.set a
          { d with
            state := .releasing, enable := true, brake := true, grace := none
            brakeTimer := some (s.time.clock + s.image.brakeMs.get a * 1000) }
        traj := { s.traj with
          axes := s.traj.axes.set a
            { x with
              e := 0, w := 0, demand := demand
              stepFrom := if d.state = .off then demand else x.stepFrom
              base :=
                match s.traj.source with
                | .freeze => base demand
                | .stow => if a = .el then base s.image.stowElevation else base demand
                | .track _ => x.base } } }
    (0 < s.image.brakeMs.get a → enterReleasing a s = t) ∧
    (s.image.brakeMs.get a = 0 → enterReleasing a s = enterOn a t)

/-- DISABLE_AXES: its refusals in order; an accepted one puts each named axis that is ON or RELEASING in the braking part of
STOPPING, its outputs as they were, with its base at its own stop point under the amax of the profile in force, and leaves
every other axis alone. SET_CUT_MASK replaces the mask of the axis named and changes nothing else. That a grace timer runs on
into STOPPING is the model's reading (log 51). -/
def Obligations.DisableAxesAndSetCutMask : Prop :=
  (∀ (p : Port) (tag mask : Byte) (s : State), Unconfigured p s →
    exec (.disableAxes p tag mask) s = refusedBy .disableAxes p tag [mask, 0] .notConfigured s) ∧
  (∀ (p : Port) (tag mask : Byte) (s : State), Served .disableAxes p s →
    let refuses := fun code => exec (.disableAxes p tag mask) s = refusedBy .disableAxes p tag [mask, 0] code s
    let bad := mask.toNat = 0 ∨ 7 < mask.toNat
    let stops := fun a => mask.getLsbD (axisNumber a) = true ∧
      ((s.drive.get a).state = .on ∨ (s.drive.get a).state = .releasing)
    let drive := PerAxis.build fun a =>
      if stops a then { s.drive.get a with state := .stopping .braking, brakeTimer := none } else s.drive.get a
    let axes := PerAxis.build fun a =>
      let x := s.traj.axes.get a
      let travel := signOf x.w * (brakingDistance (s.limits.get a).amax x.w.natAbs : Int)
      if stops a then { x with base := x.demand + travel - x.offset - x.guide, e := -travel } else x
    (bad → refuses .badValue) ∧
    (¬bad → s.ctrl.phase ≠ .none → refuses .targetActive) ∧
    (¬bad → s.ctrl.phase = .none →
      exec (.disableAxes p tag mask) s =
        acceptedBy .disableAxes p tag [mask, 0] (.axisStates (drive.map (·.state)))
          (fun t => { t with drive := drive, traj := { s.traj with axes := axes } }) s)) ∧
  ∀ (p : Port) (tag axis mask : Byte) (s : State), Served .setCutMask p s →
    (2 < axis.toNat →
      exec (.setCutMask p tag axis mask) s = refusedBy .setCutMask p tag [axis, mask] .badValue s) ∧
    ∀ a, axis.toNat = axisNumber a →
      exec (.setCutMask p tag axis mask) s =
        acceptedBy .setCutMask p tag [axis, mask] (.cutMask (s.drive.get a).cutMask mask)
          (fun t => { t with drive := s.drive.set a { s.drive.get a with cutMask := mask } }) s

/-- The timers of an axis: the brake timer in RELEASING makes it ON and driven again from its demand, with the start check when
all three are then ON; in the setting part of STOPPING it makes the axis OFF at its stop point, both outputs deasserted; the
grace timer makes FOLLOWING active, which cuts the axis when it is RELEASING, ON or STOPPING and its mask selects it. Every
other such axis that selects OTHER_CUT is then cut by it, and no other axis changes; a list in RUN or HOLD enters STOP with no
target and a freeze handed, an active target ending CUT; a list in STOP or STOW is not touched. The model's readings: an axis
cut with no last actual keeps its demand (log 24), one cut out of STOPPING its base (log 48), and a grace timer runs on from
RELEASING into ON (log 51). -/
def Obligations.AxisTimersActWhenTheyExpire : Prop :=
  ∀ (a : Axis) (s : State), s.lines.reset = false →
    let d := s.drive.get a
    let x := s.traj.axes.get a
    let with' := fun (d' : DriveAxis) (x' : TrajectoryAxis) =>
      { s with drive := s.drive.set a d', traj := { s.traj with axes := s.traj.axes.set a x' } }
    (∀ n, d.brakeTimer = some n → n ≤ s.time.clock → d.state = .releasing →
      let t := with' { d with state := .on, brakeTimer := none }
        { x with e := x.demand - (x.base + x.offset + x.guide), w := 0 }
      ((∀ b, (t.drive.get b).state = .on) → exec (.brakeTimerExpiryReleasing a) s = .next (startCheck t)) ∧
      ((∃ b, (t.drive.get b).state ≠ .on) → exec (.brakeTimerExpiryReleasing a) s = .next t)) ∧
    (∀ n, d.brakeTimer = some n → n ≤ s.time.clock → d.state = .stopping .setting →
      exec (.brakeTimerExpirySetting a) s =
        .next (with'
          { d with
            state := .off, enable := false, brake := false, brakeTimer := none, grace := none, following := false }
          { x with e := 0, w := 0 })) ∧
    (∀ n, d.grace = some n → n ≤ s.time.clock →
      let d' := { d with following := true, grace := none }
      let acts := (d.state = .on ∨ d.state = .releasing ∨ ∃ part, d.state = .stopping part) ∧ d.cutMask.getLsbD 6 = true
      (¬acts → exec (.graceTimerExpiry a) s = .next (with' d' x)) ∧
      let cut := fun (cause : CutSource) (k : DriveAxis) =>
        { k with
          state := .cut, enable := false, brake := false, brakeTimer := none, grace := none, lastCause := some cause }
      let heldAxis := fun b =>
        { s.traj.axes.get b with
          e := 0, w := 0, demand := (s.drive.get b).lastActual.getD (s.traj.axes.get b).demand }
      let follows := fun b => b ≠ a ∧ (s.drive.get b).state.canCut = true ∧ (s.drive.get b).cutMask.getLsbD 7 = true
      (acts → ∃ t, exec (.graceTimerExpiry a) s = .next t ∧
        t = { t with link := s.link, time := s.time, loader := s.loader, lines := s.lines, corr := s.corr
                     pending := s.pending } ∧
        t.drive.get a = cut .following d' ∧ t.traj.axes.get a = heldAxis a ∧
        (∀ b, follows b → t.drive.get b = cut .otherCut (s.drive.get b) ∧ t.traj.axes.get b = heldAxis b) ∧
        (∀ b, b ≠ a → ¬follows b → t.drive.get b = s.drive.get b ∧ t.traj.axes.get b = s.traj.axes.get b) ∧
        (s.ctrl.listState = .stop ∨ s.ctrl.listState = .stow →
          t.ctrl = s.ctrl ∧ t.list = s.list ∧ t.capture = s.capture ∧ t.traj = { s.traj with axes := t.traj.axes }) ∧
        (s.ctrl.listState = .run ∨ s.ctrl.listState = .hold →
          t.ctrl.listState = .stop ∧ t.ctrl.phase = .none ∧ t.ctrl.serial = (s.ctrl.serial + 1) % 65536 ∧
          t.traj = { s.traj with axes := t.traj.axes, slot := some ⟨.freeze, (s.ctrl.serial + 1) % 65536⟩ } ∧
          (s.ctrl.phase = .none → t.list = s.list ∧ t.capture = s.capture) ∧
          (s.ctrl.phase ≠ .none →
            t.list = (closeTarget .cut s).list ∧ t.capture = (closeTarget .cut s).capture))))

/-- A rise of a cut-off line. Every axis RELEASING, ON or STOPPING whose mask selects the line (every such axis, for ESTOP)
enters CUT with it as cause; when one does, every other such axis that selects OTHER_CUT enters CUT by it; no other axis
changes. Entering CUT deasserts the outputs, stops the timers, and holds the axis at its last actual position with e and w 0.
With no axis cut the level alone moves; a fall moves the level alone. A list in RUN or HOLD enters STOP with no target and a
freeze handed, an active target ending CUT; a list in STOP or STOW is not touched. The model's readings: the line is the cause of
every axis it selects before any OTHER_CUT (log 15), an axis with no last actual keeps its demand (log 24), and one cut out of
STOPPING its base (log 48). -/
def Obligations.CutLinesCutTheAxesThatSelectThem : Prop :=
  ∀ (line : CutLine) (s : State), s.lines.reset = false →
    let lines := s.lines.setLevel line true
    let position := match line with
      | .interlock => 0 | .azLimit => 1 | .elLimit => 2 | .rotLimit => 3 | .estop => 8
    let cause : CutSource := match line with
      | .interlock => .interlock | .azLimit => .azLimit | .elLimit => .elLimit | .rotLimit => .rotLimit
      | .estop => .estop
    let up := fun a => (s.drive.get a).state = .on ∨ (s.drive.get a).state = .releasing ∨
      ∃ part, (s.drive.get a).state = .stopping part
    let acts := fun a => up a ∧ (line = .estop ∨ (s.drive.get a).cutMask.getLsbD position = true)
    let follows := fun a => ¬acts a ∧ up a ∧ (s.drive.get a).cutMask.getLsbD 7 = true
    let cut := fun (a : Axis) (cause : CutSource) =>
      { s.drive.get a with
        state := .cut, enable := false, brake := false, brakeTimer := none, grace := none, lastCause := some cause }
    let heldAxis := fun a =>
      { s.traj.axes.get a with
        e := 0, w := 0, demand := (s.drive.get a).lastActual.getD (s.traj.axes.get a).demand }
    exec (.cutSourceRise line false) s = .next { s with lines := s.lines.setLevel line false } ∧
    (s.lines.level line = false →
      ((∀ a, ¬acts a) → exec (.cutSourceRise line true) s = .next { s with lines := lines }) ∧
      ((∃ a, acts a) → ∃ t, exec (.cutSourceRise line true) s = .next t ∧
        t = { t with link := s.link, time := s.time, loader := s.loader, lines := lines, corr := s.corr
                     pending := s.pending } ∧
        (∀ a,
          (acts a → t.drive.get a = cut a cause ∧ t.traj.axes.get a = heldAxis a) ∧
          (follows a → t.drive.get a = cut a .otherCut ∧ t.traj.axes.get a = heldAxis a) ∧
          (¬acts a → ¬follows a → t.drive.get a = s.drive.get a ∧ t.traj.axes.get a = s.traj.axes.get a)) ∧
        (s.ctrl.listState = .stop ∨ s.ctrl.listState = .stow →
          t.ctrl = s.ctrl ∧ t.list = s.list ∧ t.capture = s.capture ∧ t.traj = { s.traj with axes := t.traj.axes }) ∧
        (s.ctrl.listState = .run ∨ s.ctrl.listState = .hold →
          t.ctrl.listState = .stop ∧ t.ctrl.phase = .none ∧ t.ctrl.serial = (s.ctrl.serial + 1) % 65536 ∧
          t.traj = { s.traj with axes := t.traj.axes, slot := some ⟨.freeze, (s.ctrl.serial + 1) % 65536⟩ } ∧
          (s.ctrl.phase = .none → t.list = s.list ∧ t.capture = s.capture) ∧
          (s.ctrl.phase ≠ .none →
            t.list = (closeTarget .cut s).list ∧ t.capture = (closeTarget .cut s).capture))))

/-- A reply on a drive line whose receiver hunts, its characters coming together. One of another tag than the open frame's, or
with no frame open, or with a status above 2, changes nothing. A counted reply zeroes the silence count, keeps the position and
status and closes the frame; to a demand frame, with the error within the follow limit, the error is kept with its instant and
FOLLOWING and the grace timer end. One with FAULT after anything else, on a RELEASING, ON or STOPPING axis whose mask selects
DRIVE_FAULT, cuts the axis, which is held at the position replied, and then the others that select OTHER_CUT; a list in RUN or
HOLD enters STOP with no target and a freeze handed. FAULT after FAULT is no rise. The model's readings: an axis cut with no last
actual keeps its demand (log 24), one cut out of STOPPING its base (log 48), and an axis in CUT has its error judged as well
(log 35). -/
def Obligations.DriveReplyIsCountedOrDiscarded : Prop :=
  ∀ (a : Axis) (tag status : Byte) (actual : Word) (s : State), s.lines.reset = false →
    let d := s.drive.get a
    d.receiver = .hunting →
    let chars := frameBytes ⟨0x81, tag, bytes4 actual ++ [status, 0]⟩
    (2 < status.toNat ∨ (∀ f, d.openFrame = some f → f.tag ≠ tag) → exec (.driveReply a chars) s = .next s) ∧
    ∀ f st, d.openFrame = some f → f.tag = tag →
      (status.toNat = 0 ∧ st = .ok) ∨ (status.toNat = 1 ∧ st = .warn) ∨ (status.toNat = 2 ∧ st = .fault) →
      let error := f.demand - actual.toInt
      let x := s.traj.axes.get a
      let kept : DriveAxis :=
        { d with silence := 0, lastActual := some actual.toInt, lastStatus := some st, openFrame := none }
      let judged := fun k : DriveAxis =>
        if f.isDemand = true then { k with trackingError := some ⟨error, f.time⟩, following := false, grace := none } else k
      let cut := fun (cause : CutSource) (k : DriveAxis) =>
        { k with
          state := .cut, enable := false, brake := false, brakeTimer := none, grace := none, lastCause := some cause }
      let rises := st = .fault ∧ d.lastStatus ≠ some .fault ∧ d.state.canCut = true ∧ d.cutMask.getLsbD 5 = true
      let follows := fun b => (s.drive.get b).state.canCut = true ∧ (s.drive.get b).cutMask.getLsbD 7 = true
      let serial := (s.ctrl.serial + 1) % 65536
      (f.isDemand = true → error.natAbs ≤ s.image.followLimit.get a) →
      (¬rises → (f.isDemand = true → s.ctrl.phase = .none ∧ ∀ r ∈ s.capture.fifo, r.closing ≠ none) →
        exec (.driveReply a chars) s = .next { s with drive := s.drive.set a (judged kept) }) ∧
      (rises → ∃ t, exec (.driveReply a chars) s = .next t ∧
        t.drive.get a = judged (cut .driveFault kept) ∧
        t.traj.axes.get a = { x with e := 0, w := 0, demand := actual.toInt } ∧
        (∀ b, b ≠ a → follows b →
          t.drive.get b = cut .otherCut (s.drive.get b) ∧
          t.traj.axes.get b =
            { s.traj.axes.get b with
              e := 0, w := 0, demand := (s.drive.get b).lastActual.getD (s.traj.axes.get b).demand }) ∧
        (∀ b, b ≠ a → ¬follows b → t.drive.get b = s.drive.get b ∧ t.traj.axes.get b = s.traj.axes.get b) ∧
        (s.ctrl.listState = .run ∨ s.ctrl.listState = .hold →
          t.ctrl.listState = .stop ∧ t.ctrl.phase = .none ∧ t.ctrl.serial = serial ∧
          t.traj.slot = some ⟨.freeze, serial⟩) ∧
        (s.ctrl.listState = .stop ∨ s.ctrl.listState = .stow → s.ctrl.phase = .none →
          t.ctrl = s.ctrl ∧ t.list = s.list ∧ t.traj.slot = s.traj.slot))

/-- What a tracking error does. Above the follow limit, FOLLOWING active or the grace timer running are left as they are, and
otherwise the timer starts, which with a grace of 0 expires at once. Within it, a target active records the error; in SETTLE a
condition that fails stops the hold timer, and one that holds starts a stopped timer, which with a hold time of 0 expires at
once. While a record is open the error joins the errors of its instant (instants of one site time are not told apart, log 41);
when all three axes are there the on-target time grows by P if the record's target is in TRACK, not ended, and every error is
within its settle tolerance, and the collection ends. That an axis in CUT has its error judged as well is the model's reading
(log 35). -/
def Obligations.TrackingErrorsAreJudgedAndReported : Prop :=
  ∀ (a : Axis) (tag status : Byte) (actual : Word) (f : OpenFrame) (s : State), s.lines.reset = false →
    let d := s.drive.get a
    let chars := frameBytes ⟨0x81, tag, bytes4 actual ++ [status, 0]⟩
    d.receiver = .hunting → d.openFrame = some f → f.tag = tag → f.isDemand = true → status.toNat = 0 →
    let error := f.demand - actual.toInt
    let kept : DriveAxis :=
      { d with
        silence := 0, lastActual := some actual.toInt, lastStatus := some .ok, openFrame := none
        trackingError := some ⟨error, f.time⟩ }
    let leaves := fun d' : DriveAxis => { s with drive := s.drive.set a d' }
    let above := s.image.followLimit.get a < error.natAbs
    let within := leaves { kept with following := false, grace := none }
    let shut := ∀ r ∈ s.capture.fifo, r.closing ≠ none
    (above → s.ctrl.phase = .none → shut →
      (d.following = true ∨ d.grace ≠ none → exec (.driveReply a chars) s = .next (leaves kept)) ∧
      (d.following = false → d.grace = none → 0 < s.image.followGraceMs →
        exec (.driveReply a chars) s =
          .next (leaves { kept with grace := some (s.time.clock + s.image.followGraceMs * 1000) })) ∧
      (d.following = false → d.grace = none → s.image.followGraceMs = 0 →
        exec (.driveReply a chars) s = exec (.graceTimerExpiry a) (leaves { kept with grace := some s.time.clock }))) ∧
    (¬above → s.ctrl.phase ≠ .none → shut →
      let lastError := s.ctrl.lastError.set a (some error)
      let held := fun hold => { within with ctrl := { s.ctrl with lastError := lastError, settleHold := hold } }
      let near := (∀ b, ∃ x, lastError.get b = some x ∧ x.natAbs ≤ s.image.tolerance.get b) ∧
        (s.ctrl.options.domeWait = true → s.lines.domeReady = true)
      (s.ctrl.phase ≠ .settle → exec (.driveReply a chars) s = .next (held s.ctrl.settleHold)) ∧
      (s.ctrl.phase = .settle →
        (¬near → exec (.driveReply a chars) s = .next (held none)) ∧
        (near → s.ctrl.settleHold ≠ none → exec (.driveReply a chars) s = .next (held s.ctrl.settleHold)) ∧
        (near → s.ctrl.settleHold = none → 0 < s.image.settleHoldMs →
          exec (.driveReply a chars) s = .next (held (some (s.time.clock + s.image.settleHoldMs * 1000)))) ∧
        (near → s.ctrl.settleHold = none → s.image.settleHoldMs = 0 →
          exec (.driveReply a chars) s = exec .settleHoldExpiry (held (some s.time.clock))))) ∧
    (¬above → s.ctrl.phase ≠ .settle → CaptureSound s.capture → ∀ r ∈ s.capture.fifo, r.closing = none →
      let taken : PerAxis (Option Int) :=
        match s.capture.collection with
        | some c => if c.time = f.time then c.errors else .all none
        | none => .all none
      let errors := taken.set a (some error)
      let counts := r.targetEnded = false ∧ r.targetId ≠ 0 ∧ s.ctrl.activeId = r.targetId ∧ s.ctrl.phase = .track ∧
        ∀ b, ∃ x, errors.get b = some x ∧ x.natAbs ≤ s.image.tolerance.get b
      let lastError := if s.ctrl.phase = .none then s.ctrl.lastError else s.ctrl.lastError.set a (some error)
      let captured := fun c : Capture =>
        { within with ctrl := { s.ctrl with lastError := lastError }, capture := c }
      ((∃ b, errors.get b = none) →
        exec (.driveReply a chars) s = .next (captured { s.capture with collection := some ⟨f.time, errors⟩ })) ∧
      ((∀ b, errors.get b ≠ none) →
        (counts →
          exec (.driveReply a chars) s =
            .next (captured
              { s.capture with
                collection := none
                fifo := s.capture.fifo.map fun q =>
                  if q.closing = none then { q with onTarget := q.onTarget + s.image.periodMs * 1000 } else q })) ∧
        (¬counts → exec (.driveReply a chars) s = .next (captured { s.capture with collection := none }))))

/-! ## The capture unit -/

/-- The SHUTTER filter and the capture FIFO. A change of level begins or abandons a candidate, after a candidate that has held
for the filter interval is accepted; a candidate that has held for the interval is accepted: the first level is no edge; from
LOW to HIGH a record opens, stamped with the active target, the phase, the last demand instant, the demands issued at it and
the stack depth, the oldest record leaving a full FIFO; from HIGH to LOW the open record closes with its time and duration and
CAPTURE_READY is raised. READ_CAPTURES removes and answers the oldest closed records, up to 4. That with a filter interval of 0
SHUTTER_CHANGE accepts the level within its own command is the model's reading (log 21). -/
def Obligations.CapturesOpenCloseAndAreRead : Prop :=
  (∀ s : State, s.lines.reset = false →
    let c := s.capture
    let edge := s.time.clock - s.image.filterUs
    (∀ level, 0 < s.image.filterUs → c.accepted ≠ (if level = true then .high else .low) → c.candidate = none →
      exec (.shutterChange level) s = .next
        { s with
          lines := { s.lines with shutter := level }
          capture := { c with candidate := some ⟨level, s.time.elapsed⟩ } }) ∧
    (∀ level, 0 < s.image.filterUs → c.accepted = (if level = true then .high else .low) →
      (∀ k, c.candidate = some k → s.time.elapsed - k.since < s.image.filterUs) →
      exec (.shutterChange level) s = .next
        { s with lines := { s.lines with shutter := level }, capture := { c with candidate := none } }) ∧
    (∀ level k t, c.candidate = some k → s.image.filterUs ≤ s.time.elapsed - k.since →
      exec .shutterCandidateAccepted s = .next t → exec (.shutterChange level) s = exec (.shutterChange level) t) ∧
    (∀ level, s.image.filterUs = 0 → c.accepted ≠ (if level = true then .high else .low) → c.candidate = none →
      exec (.shutterChange level) s =
        exec .shutterCandidateAccepted
          { s with
            lines := { s.lines with shutter := level }
            capture := { c with candidate := some ⟨level, s.time.elapsed⟩ } }) ∧
    ∀ (level : Bool) (since : Nat), c.candidate = some ⟨level, since⟩ → s.image.filterUs ≤ s.time.elapsed - since →
      (c.accepted = .unknown →
        exec .shutterCandidateAccepted s = .next
          { s with capture := { c with accepted := if level = true then .high else .low, candidate := none } }) ∧
      (level = true → c.accepted = .low → s.isValid = true → ∀ now, s.traj.lastInstant = some now →
        let record : CaptureRecord :=
          { serial := c.nextSerial, openTime := edge, targetId := s.ctrl.activeId, phase := s.ctrl.phase, instant := now
            demands := s.traj.axes.map (·.issued), depth := s.corr.stack.length
            earlierLost := decide (16 ≤ c.fifo.length), targetEnded := false, onTarget := 0, guideCount := 0
            closing := none }
        exec .shutterCandidateAccepted s = .next
          { s with capture :=
            { accepted := .high, candidate := none, edgeCount := since, collection := none
              fifo := (if 16 ≤ c.fifo.length then c.fifo.tail else c.fifo) ++ [record]
              nextSerial := if c.nextSerial < 4294967295 then c.nextSerial + 1 else 1 } }) ∧
      (level = false → c.accepted = .high →
        ((∃ r ∈ c.fifo, r.closing = none) →
          exec .shutterCandidateAccepted s = .next (raise .captureReady
            { s with capture :=
              { c with
                accepted := .low, candidate := none, edgeCount := since, collection := none
                fifo := c.fifo.map fun r =>
                  if r.closing = none then { r with closing := some (edge, since - c.edgeCount) } else r } })) ∧
        ((∀ r ∈ c.fifo, r.closing ≠ none) →
          exec .shutterCandidateAccepted s = .next
            { s with capture := { c with accepted := .low, candidate := none, edgeCount := since } }))) ∧
  ∀ (p : Port) (tag : Byte) (s : State), Served .readCaptures p s →
    let closed := s.capture.fifo.filter fun r => r.closing.isSome
    let opened := s.capture.fifo.find? fun r => r.closing.isNone
    exec (.readCaptures p tag) s =
      acceptedBy .readCaptures p tag []
        (.captures (closed.length - 4) (opened.map fun r => (r.serial, r.openTime)) s.capture.accepted (closed.take 4))
        (fun t => { t with capture := { s.capture with fifo := closed.drop 4 ++ opened.toList } }) s

/-! ## The notice unit -/

/-- A raise joins its source to the pending set of each port its entry selects, once, unless its level is 0, and touches no
other block. READ_NOTICES answers the port's pending set by level and then number, and empties it; SET_ROUTING rewrites an
entry, takes the source from the ports that no longer hear it, and judges every line; SET_THRESHOLD sets the port's own
threshold and judges its line. The operand ranges are refused with BAD_VALUE. -/
def Obligations.NoticesAreRoutedReadAndRerouted : Prop :=
  (∀ (src x : NoticeSource) (p : Port) (s : State),
    let entry := s.notice.routing.getD (noticeNumber src) ⟨0, 0⟩
    raise src s = { s with notice := (raise src s).notice } ∧ (raise src s).notice.routing = s.notice.routing ∧
    ((raise src s).notice.ports.get p).threshold = (s.notice.ports.get p).threshold ∧
    (x ∈ ((raise src s).notice.ports.get p).waiting ↔
      x ∈ (s.notice.ports.get p).waiting ∨
      (x = src ∧ entry.level ≠ 0 ∧ entry.mask.getLsbD (portNumber p) = true))) ∧
  (∀ (p : Port) (tag : Byte) (s : State), Served .readNotices p s →
    let q := s.notice.ports.get p
    ∃ answer : List (NoticeSource × Nat),
      (∀ x, x ∈ answer ↔ x.1 ∈ q.waiting ∧ x.2 = (routingOf s.notice.routing x.1).level ∧ x.2 ≤ 3) ∧
      (q.waiting.Pairwise (fun a b => noticeNumber a < noticeNumber b) →
        answer.Pairwise fun a b => b.2 < a.2 ∨ (a.2 = b.2 ∧ noticeNumber a.1 < noticeNumber b.1)) ∧
      exec (.readNotices p tag) s =
        acceptedBy .readNotices p tag [] (.notices answer q.threshold)
          (fun t =>
            { t with notice := { s.notice with ports := s.notice.ports.set p { q with waiting := [], attention := false } } })
          s) ∧
  (∀ (p : Port) (tag source mask level : Byte) (s : State), Unconfigured p s →
    exec (.setRouting p tag source mask level) s =
      refusedBy .setRouting p tag [source, mask, level, 0] .notConfigured s) ∧
  (∀ (p : Port) (tag source mask level : Byte) (s : State), Served .setRouting p s →
    (11 < source.toNat ∨ 15 < mask.toNat ∨ 3 < level.toNat →
      exec (.setRouting p tag source mask level) s =
        refusedBy .setRouting p tag [source, mask, level, 0] .badValue s) ∧
    ∀ src, source.toNat = noticeNumber src → mask.toNat ≤ 15 → level.toNat ≤ 3 →
      let before := routingOf s.notice.routing src
      let after : RoutingEntry := ⟨mask.extractLsb' 0 4, level.toNat⟩
      let routing := s.notice.routing.set (noticeNumber src) after
      let port := fun q =>
        let x := s.notice.ports.get q
        let waiting :=
          if level.toNat = 0 ∨ (before.mask.getLsbD (portNumber q) = true ∧ mask.getLsbD (portNumber q) = false) then
            x.waiting.filter fun y => y != src
          else x.waiting
        { x with
          waiting := waiting
          attention := waiting.any fun y =>
            decide (x.threshold < (routingOf routing y).level) || (routingOf routing y).level == 3 }
      exec (.setRouting p tag source mask level) s =
        acceptedBy .setRouting p tag [source, mask, level, 0] (.routing before after)
          (fun t => { t with notice := { routing := routing, ports := PerPort.build port } }) s) ∧
  ∀ (p : Port) (tag threshold : Byte) (s : State), Served .setThreshold p s →
    let q := s.notice.ports.get p
    let line := q.waiting.any fun y =>
      decide (threshold.toNat < (routingOf s.notice.routing y).level) || (routingOf s.notice.routing y).level == 3
    (s.isValid = false →
      exec (.setThreshold p tag threshold) s = refusedBy .setThreshold p tag [threshold, 0] .notConfigured s) ∧
    (s.isValid = true → 2 < threshold.toNat →
      exec (.setThreshold p tag threshold) s = refusedBy .setThreshold p tag [threshold, 0] .badValue s) ∧
    (s.isValid = true → threshold.toNat ≤ 2 →
      exec (.setThreshold p tag threshold) s =
        acceptedBy .setThreshold p tag [threshold, 0] (.threshold q.threshold threshold.toNat line)
          (fun t =>
            { t with notice := { s.notice with
                ports := s.notice.ports.set p { q with threshold := threshold.toNat, attention := line } } }) s)

/-! ## The reads of the other blocks -/

/-- READ_SEQUENCE, READ_TIME, READ_POINTING, READ_CORRECTIONS, READ_AXES and READ_STATUS answer their block's state, field by
field, and change nothing. The last error of READ_POINTING is the drive controller's tracking error (log 38), and θ, sine, cosine
and k are of the present demands (log 14). -/
def Obligations.ReadsAnswerTheStateAndChangeNothing : Prop :=
  ∀ (p : Port) (tag : Byte) (s : State),
    let left := fun (timer : Option Nat) => timer.map fun n => (n - s.time.clock + 999) / 1000
    (Served .readSequence p s →
      ∃ start : Option Nat,
        (∀ n, start = some n → ∃ w ∈ s.ctrl.watches, w.expired = false ∧ w.start = n) ∧
        (∀ w ∈ s.ctrl.watches, w.expired = false → ∃ n, start = some n ∧ n ≤ w.start) ∧
        exec (.readSequence p tag) s =
          acceptedBy .readSequence p tag []
            (.sequence
              { listState := s.ctrl.listState, phase := s.ctrl.phase, activeId := s.ctrl.activeId
                serial := s.ctrl.serial, timeoutLeft := left s.ctrl.settleTimeout, holdLeft := left s.ctrl.settleHold
                dwellLeft := left s.ctrl.dwellTimer
                tracked := ((match s.ctrl.phase, s.ctrl.trackEntry with
                  | .track, some entry => s.ctrl.trackedUs + (s.time.clock - entry)
                  | _, _ => s.ctrl.trackedUs) + 500) / 1000
                lastError := s.ctrl.lastError, domeReady := s.lines.domeReady, stow := s.lines.stow
                nextStart := start }) id s) ∧
    (Served .readTime p s →
      exec (.readTime p tag) s =
        acceptedBy .readTime p tag []
          (.time
            { time := s.time.clock, status := s.time.status, pendingTime := s.time.pendingSet
              holding := s.time.holdEnd.isSome, lastOffset := s.time.lastOffset, pulseWatch := s.time.pulseWatch.isSome
              periodMs := s.image.periodMs, lastInstant := s.traj.lastInstant }) id s) ∧
    (Served .readPointing p s →
      exec (.readPointing p tag) s =
        acceptedBy .readPointing p tag []
          (.pointing
            { lastInstant := s.traj.lastInstant
              axes := PerAxis.build fun a =>
                let x := s.traj.axes.get a
                { demand := x.demand, reference := if s.driven a = true then x.base + x.offset + x.guide else x.demand
                  e := x.e, w := x.w, demandStep := x.demandStep
                  lastError := (s.drive.get a).trackingError.map (·.error)
                  held := !(s.driven a) }
              profile := s.traj.profile, forceGust := s.traj.forceGust, source := s.traj.source.kind
              slot := s.traj.slot, adoptedSerial := s.traj.adoptedSerial, track := s.traj.source.trackView
              listState := s.ctrl.listState, phase := s.ctrl.phase, activeId := s.ctrl.activeId
              depth := s.corr.stack.length, gAz := s.corr.gAz, gEl := s.corr.gEl }) id s) ∧
    (Served .readCorrections p s →
      let theta := (s.traj.axes.rot.demand + s.image.guiderAngle) % 129600000
      let cosEl := cosine s.traj.axes.el.demand
      exec (.readCorrections p tag) s =
        acceptedBy .readCorrections p tag []
          (.corrections
            { theta := theta, sin := sine theta, cos := cosine theta
              k := if cosEl < 67108864 then 67108864 else cosEl, capped := decide (cosEl < 67108864)
              ring := s.corr.ring, gAz := s.corr.gAz, gEl := s.corr.gEl, lastGuide := s.corr.lastGuide
              entries := s.corr.stack.reverse, totals := stackTotals s.corr.stack }) id s) ∧
    (Served .readAxes p s →
      exec (.readAxes p tag) s =
        acceptedBy .readAxes p tag []
          (.axes
            (PerAxis.build fun a =>
              let d := s.drive.get a
              { state := d.state, enable := d.enable, brake := d.brake, brakeLeft := left d.brakeTimer
                lastActual := d.lastActual, lastStatus := d.lastStatus, trackingError := d.trackingError
                silence := d.silence, graceLeft := left d.grace
                levels := BitVec.ofNat 8 (bitsToNat
                  [s.lines.interlock, s.lines.azLimit, s.lines.elLimit, s.lines.rotLimit, d.silence == 3,
                   d.lastStatus == some .fault, d.following,
                   allAxes.any fun b => b != a && (s.drive.get b).state == .cut])
                cutMask := d.cutMask, lastCause := d.lastCause, nextTag := d.nextTag }) s.lines) id s) ∧
    (Served .readStatus p s →
      let q := s.link.get p
      exec (.readStatus p tag) s =
        acceptedBy .readStatus p tag []
          (.status
            { port := p, rights := q.rights, rate := q.rate, refusal := q.refusal, refusalCount := q.refusalCount
              framing := q.framing, check := q.check, overrun := q.overrun, load := s.loadName, clock := s.time.status
              listState := s.ctrl.listState, phase := s.ctrl.phase, activeId := s.ctrl.activeId
              axisStates := s.drive.map (·.state), lines := s.lines, latch := s.loader.latch }) id s)

/-! ## Invariants that every step keeps -/

/-- The night list keeps its order, its capacities and its ids, and the outcome log the order of entry serial (log 36);
exactly the active target's record is ACTIVE, and only while the phase is not NONE; each WAITING record has a watch and no
other has; and the timers run in the phases that have them. -/
def Obligations.ListInvariantsAreKept : Prop :=
  ∀ s t : State, ListSound s.list → PhaseSound s → WatchesMatch s → TimersSound s.ctrl → step s = .next t →
    ListSound t.list ∧ PhaseSound t ∧ WatchesMatch t ∧ TimersSound t.ctrl

/-- The outputs of each axis are those of its state; a held axis is at rest; and the demand of a driven axis is its source
reference plus its residual: no change of reference moves a demand. -/
def Obligations.AxisInvariantsAreKept : Prop :=
  ∀ s t : State, OutputsMatch s → HeldAtRest s → DemandAgrees s → step s = .next t →
    OutputsMatch t ∧ HeldAtRest t ∧ DemandAgrees t

/-- The offset terms are always the stack totals and the guide terms the accumulator; the ring has N pairs, and G, the stack
and its totals stay in their ranges. -/
def Obligations.CorrectionInvariantsAreKept : Prop :=
  ∀ s t : State, TermsAgree s → CorrectionsBounded s → step s = .next t → TermsAgree t ∧ CorrectionsBounded t

/-- Each port holds at most two requests, with a reply queued for each carried-out one in order; and each attention line is as
R183 has it, over pending sets that list each source once. -/
def Obligations.LinkAndNoticeInvariantsAreKept : Prop :=
  ∀ s t : State, step s = .next t →
    (LinksSound s → LinksSound t) ∧ (NoticesSound s.notice → NoticesSound t.notice)

/-- The capture FIFO holds at most 16 records, of which at most the newest is open; and the clock stays within its range, with
any pending set a whole second it can take. -/
def Obligations.CaptureAndClockInvariantsAreKept : Prop :=
  ∀ s t : State, step s = .next t →
    (CaptureSound s.capture → CaptureSound t.capture) ∧ (ClockSound s.time → ClockSound t.time)

/-- Until the load state is VALID the part is inert: the list in STOP with no record, every axis OFF and unframed, every port
with OBSERVE alone, no capture record and no notice. -/
def Obligations.PartIsInertUntilValid : Prop :=
  ∀ s t : State, InertUntilValid s → step s = .next t → InertUntilValid t

end Statements
end

