-- ==== Sys2Proof/Laws/State.lean ====
section
/-! SUPPORT. Laws of State: each block update read back at each block, and updates of one axis or port read back at each
axis or port. -/

namespace Sys2Proof.Machine

variable (s : State)

/-! ## setLink -/

section
variable (v : PerPort LinkPort)
@[simp] theorem State.setLink_link : (s.setLink v).link = v := rfl
@[simp] theorem State.setLink_list : (s.setLink v).list = s.list := rfl
@[simp] theorem State.setLink_ctrl : (s.setLink v).ctrl = s.ctrl := rfl
@[simp] theorem State.setLink_traj : (s.setLink v).traj = s.traj := rfl
@[simp] theorem State.setLink_corr : (s.setLink v).corr = s.corr := rfl
@[simp] theorem State.setLink_drive : (s.setLink v).drive = s.drive := rfl
@[simp] theorem State.setLink_capture : (s.setLink v).capture = s.capture := rfl
@[simp] theorem State.setLink_time : (s.setLink v).time = s.time := rfl
@[simp] theorem State.setLink_notice : (s.setLink v).notice = s.notice := rfl
@[simp] theorem State.setLink_loader : (s.setLink v).loader = s.loader := rfl
@[simp] theorem State.setLink_lines : (s.setLink v).lines = s.lines := rfl
@[simp] theorem State.setLink_pending : (s.setLink v).pending = s.pending := rfl
end

/-! ## setList -/

section
variable (v : ListStore)
@[simp] theorem State.setList_link : (s.setList v).link = s.link := rfl
@[simp] theorem State.setList_list : (s.setList v).list = v := rfl
@[simp] theorem State.setList_ctrl : (s.setList v).ctrl = s.ctrl := rfl
@[simp] theorem State.setList_traj : (s.setList v).traj = s.traj := rfl
@[simp] theorem State.setList_corr : (s.setList v).corr = s.corr := rfl
@[simp] theorem State.setList_drive : (s.setList v).drive = s.drive := rfl
@[simp] theorem State.setList_capture : (s.setList v).capture = s.capture := rfl
@[simp] theorem State.setList_time : (s.setList v).time = s.time := rfl
@[simp] theorem State.setList_notice : (s.setList v).notice = s.notice := rfl
@[simp] theorem State.setList_loader : (s.setList v).loader = s.loader := rfl
@[simp] theorem State.setList_lines : (s.setList v).lines = s.lines := rfl
@[simp] theorem State.setList_pending : (s.setList v).pending = s.pending := rfl
end

/-! ## setCtrl -/

section
variable (v : Controller)
@[simp] theorem State.setCtrl_link : (s.setCtrl v).link = s.link := rfl
@[simp] theorem State.setCtrl_list : (s.setCtrl v).list = s.list := rfl
@[simp] theorem State.setCtrl_ctrl : (s.setCtrl v).ctrl = v := rfl
@[simp] theorem State.setCtrl_traj : (s.setCtrl v).traj = s.traj := rfl
@[simp] theorem State.setCtrl_corr : (s.setCtrl v).corr = s.corr := rfl
@[simp] theorem State.setCtrl_drive : (s.setCtrl v).drive = s.drive := rfl
@[simp] theorem State.setCtrl_capture : (s.setCtrl v).capture = s.capture := rfl
@[simp] theorem State.setCtrl_time : (s.setCtrl v).time = s.time := rfl
@[simp] theorem State.setCtrl_notice : (s.setCtrl v).notice = s.notice := rfl
@[simp] theorem State.setCtrl_loader : (s.setCtrl v).loader = s.loader := rfl
@[simp] theorem State.setCtrl_lines : (s.setCtrl v).lines = s.lines := rfl
@[simp] theorem State.setCtrl_pending : (s.setCtrl v).pending = s.pending := rfl
end

/-! ## setTraj -/

section
variable (v : Trajectory)
@[simp] theorem State.setTraj_link : (s.setTraj v).link = s.link := rfl
@[simp] theorem State.setTraj_list : (s.setTraj v).list = s.list := rfl
@[simp] theorem State.setTraj_ctrl : (s.setTraj v).ctrl = s.ctrl := rfl
@[simp] theorem State.setTraj_traj : (s.setTraj v).traj = v := rfl
@[simp] theorem State.setTraj_corr : (s.setTraj v).corr = s.corr := rfl
@[simp] theorem State.setTraj_drive : (s.setTraj v).drive = s.drive := rfl
@[simp] theorem State.setTraj_capture : (s.setTraj v).capture = s.capture := rfl
@[simp] theorem State.setTraj_time : (s.setTraj v).time = s.time := rfl
@[simp] theorem State.setTraj_notice : (s.setTraj v).notice = s.notice := rfl
@[simp] theorem State.setTraj_loader : (s.setTraj v).loader = s.loader := rfl
@[simp] theorem State.setTraj_lines : (s.setTraj v).lines = s.lines := rfl
@[simp] theorem State.setTraj_pending : (s.setTraj v).pending = s.pending := rfl
end

/-! ## setCorr -/

section
variable (v : Correction)
@[simp] theorem State.setCorr_link : (s.setCorr v).link = s.link := rfl
@[simp] theorem State.setCorr_list : (s.setCorr v).list = s.list := rfl
@[simp] theorem State.setCorr_ctrl : (s.setCorr v).ctrl = s.ctrl := rfl
@[simp] theorem State.setCorr_traj : (s.setCorr v).traj = s.traj := rfl
@[simp] theorem State.setCorr_corr : (s.setCorr v).corr = v := rfl
@[simp] theorem State.setCorr_drive : (s.setCorr v).drive = s.drive := rfl
@[simp] theorem State.setCorr_capture : (s.setCorr v).capture = s.capture := rfl
@[simp] theorem State.setCorr_time : (s.setCorr v).time = s.time := rfl
@[simp] theorem State.setCorr_notice : (s.setCorr v).notice = s.notice := rfl
@[simp] theorem State.setCorr_loader : (s.setCorr v).loader = s.loader := rfl
@[simp] theorem State.setCorr_lines : (s.setCorr v).lines = s.lines := rfl
@[simp] theorem State.setCorr_pending : (s.setCorr v).pending = s.pending := rfl
end

/-! ## setDrive -/

section
variable (v : PerAxis DriveAxis)
@[simp] theorem State.setDrive_link : (s.setDrive v).link = s.link := rfl
@[simp] theorem State.setDrive_list : (s.setDrive v).list = s.list := rfl
@[simp] theorem State.setDrive_ctrl : (s.setDrive v).ctrl = s.ctrl := rfl
@[simp] theorem State.setDrive_traj : (s.setDrive v).traj = s.traj := rfl
@[simp] theorem State.setDrive_corr : (s.setDrive v).corr = s.corr := rfl
@[simp] theorem State.setDrive_drive : (s.setDrive v).drive = v := rfl
@[simp] theorem State.setDrive_capture : (s.setDrive v).capture = s.capture := rfl
@[simp] theorem State.setDrive_time : (s.setDrive v).time = s.time := rfl
@[simp] theorem State.setDrive_notice : (s.setDrive v).notice = s.notice := rfl
@[simp] theorem State.setDrive_loader : (s.setDrive v).loader = s.loader := rfl
@[simp] theorem State.setDrive_lines : (s.setDrive v).lines = s.lines := rfl
@[simp] theorem State.setDrive_pending : (s.setDrive v).pending = s.pending := rfl
end

/-! ## setCapture -/

section
variable (v : Capture)
@[simp] theorem State.setCapture_link : (s.setCapture v).link = s.link := rfl
@[simp] theorem State.setCapture_list : (s.setCapture v).list = s.list := rfl
@[simp] theorem State.setCapture_ctrl : (s.setCapture v).ctrl = s.ctrl := rfl
@[simp] theorem State.setCapture_traj : (s.setCapture v).traj = s.traj := rfl
@[simp] theorem State.setCapture_corr : (s.setCapture v).corr = s.corr := rfl
@[simp] theorem State.setCapture_drive : (s.setCapture v).drive = s.drive := rfl
@[simp] theorem State.setCapture_capture : (s.setCapture v).capture = v := rfl
@[simp] theorem State.setCapture_time : (s.setCapture v).time = s.time := rfl
@[simp] theorem State.setCapture_notice : (s.setCapture v).notice = s.notice := rfl
@[simp] theorem State.setCapture_loader : (s.setCapture v).loader = s.loader := rfl
@[simp] theorem State.setCapture_lines : (s.setCapture v).lines = s.lines := rfl
@[simp] theorem State.setCapture_pending : (s.setCapture v).pending = s.pending := rfl
end

/-! ## setTime -/

section
variable (v : TimeBase)
@[simp] theorem State.setTime_link : (s.setTime v).link = s.link := rfl
@[simp] theorem State.setTime_list : (s.setTime v).list = s.list := rfl
@[simp] theorem State.setTime_ctrl : (s.setTime v).ctrl = s.ctrl := rfl
@[simp] theorem State.setTime_traj : (s.setTime v).traj = s.traj := rfl
@[simp] theorem State.setTime_corr : (s.setTime v).corr = s.corr := rfl
@[simp] theorem State.setTime_drive : (s.setTime v).drive = s.drive := rfl
@[simp] theorem State.setTime_capture : (s.setTime v).capture = s.capture := rfl
@[simp] theorem State.setTime_time : (s.setTime v).time = v := rfl
@[simp] theorem State.setTime_notice : (s.setTime v).notice = s.notice := rfl
@[simp] theorem State.setTime_loader : (s.setTime v).loader = s.loader := rfl
@[simp] theorem State.setTime_lines : (s.setTime v).lines = s.lines := rfl
@[simp] theorem State.setTime_pending : (s.setTime v).pending = s.pending := rfl
end

/-! ## setNotice -/

section
variable (v : Notices)
@[simp] theorem State.setNotice_link : (s.setNotice v).link = s.link := rfl
@[simp] theorem State.setNotice_list : (s.setNotice v).list = s.list := rfl
@[simp] theorem State.setNotice_ctrl : (s.setNotice v).ctrl = s.ctrl := rfl
@[simp] theorem State.setNotice_traj : (s.setNotice v).traj = s.traj := rfl
@[simp] theorem State.setNotice_corr : (s.setNotice v).corr = s.corr := rfl
@[simp] theorem State.setNotice_drive : (s.setNotice v).drive = s.drive := rfl
@[simp] theorem State.setNotice_capture : (s.setNotice v).capture = s.capture := rfl
@[simp] theorem State.setNotice_time : (s.setNotice v).time = s.time := rfl
@[simp] theorem State.setNotice_notice : (s.setNotice v).notice = v := rfl
@[simp] theorem State.setNotice_loader : (s.setNotice v).loader = s.loader := rfl
@[simp] theorem State.setNotice_lines : (s.setNotice v).lines = s.lines := rfl
@[simp] theorem State.setNotice_pending : (s.setNotice v).pending = s.pending := rfl
end

/-! ## setLoader -/

section
variable (v : Loader)
@[simp] theorem State.setLoader_link : (s.setLoader v).link = s.link := rfl
@[simp] theorem State.setLoader_list : (s.setLoader v).list = s.list := rfl
@[simp] theorem State.setLoader_ctrl : (s.setLoader v).ctrl = s.ctrl := rfl
@[simp] theorem State.setLoader_traj : (s.setLoader v).traj = s.traj := rfl
@[simp] theorem State.setLoader_corr : (s.setLoader v).corr = s.corr := rfl
@[simp] theorem State.setLoader_drive : (s.setLoader v).drive = s.drive := rfl
@[simp] theorem State.setLoader_capture : (s.setLoader v).capture = s.capture := rfl
@[simp] theorem State.setLoader_time : (s.setLoader v).time = s.time := rfl
@[simp] theorem State.setLoader_notice : (s.setLoader v).notice = s.notice := rfl
@[simp] theorem State.setLoader_loader : (s.setLoader v).loader = v := rfl
@[simp] theorem State.setLoader_lines : (s.setLoader v).lines = s.lines := rfl
@[simp] theorem State.setLoader_pending : (s.setLoader v).pending = s.pending := rfl
end

/-! ## setLines -/

section
variable (v : Lines)
@[simp] theorem State.setLines_link : (s.setLines v).link = s.link := rfl
@[simp] theorem State.setLines_list : (s.setLines v).list = s.list := rfl
@[simp] theorem State.setLines_ctrl : (s.setLines v).ctrl = s.ctrl := rfl
@[simp] theorem State.setLines_traj : (s.setLines v).traj = s.traj := rfl
@[simp] theorem State.setLines_corr : (s.setLines v).corr = s.corr := rfl
@[simp] theorem State.setLines_drive : (s.setLines v).drive = s.drive := rfl
@[simp] theorem State.setLines_capture : (s.setLines v).capture = s.capture := rfl
@[simp] theorem State.setLines_time : (s.setLines v).time = s.time := rfl
@[simp] theorem State.setLines_notice : (s.setLines v).notice = s.notice := rfl
@[simp] theorem State.setLines_loader : (s.setLines v).loader = s.loader := rfl
@[simp] theorem State.setLines_lines : (s.setLines v).lines = v := rfl
@[simp] theorem State.setLines_pending : (s.setLines v).pending = s.pending := rfl
end

/-! ## setPending -/

section
variable (v : List Instr)
@[simp] theorem State.setPending_link : (s.setPending v).link = s.link := rfl
@[simp] theorem State.setPending_list : (s.setPending v).list = s.list := rfl
@[simp] theorem State.setPending_ctrl : (s.setPending v).ctrl = s.ctrl := rfl
@[simp] theorem State.setPending_traj : (s.setPending v).traj = s.traj := rfl
@[simp] theorem State.setPending_corr : (s.setPending v).corr = s.corr := rfl
@[simp] theorem State.setPending_drive : (s.setPending v).drive = s.drive := rfl
@[simp] theorem State.setPending_capture : (s.setPending v).capture = s.capture := rfl
@[simp] theorem State.setPending_time : (s.setPending v).time = s.time := rfl
@[simp] theorem State.setPending_notice : (s.setPending v).notice = s.notice := rfl
@[simp] theorem State.setPending_loader : (s.setPending v).loader = s.loader := rfl
@[simp] theorem State.setPending_lines : (s.setPending v).lines = s.lines := rfl
@[simp] theorem State.setPending_pending : (s.setPending v).pending = v := rfl
end

/-! ## modPort -/

section
variable (p : Port) (f : LinkPort → LinkPort)
@[simp] theorem State.modPort_list : (s.modPort p f).list = s.list := rfl
@[simp] theorem State.modPort_ctrl : (s.modPort p f).ctrl = s.ctrl := rfl
@[simp] theorem State.modPort_traj : (s.modPort p f).traj = s.traj := rfl
@[simp] theorem State.modPort_corr : (s.modPort p f).corr = s.corr := rfl
@[simp] theorem State.modPort_drive : (s.modPort p f).drive = s.drive := rfl
@[simp] theorem State.modPort_capture : (s.modPort p f).capture = s.capture := rfl
@[simp] theorem State.modPort_time : (s.modPort p f).time = s.time := rfl
@[simp] theorem State.modPort_notice : (s.modPort p f).notice = s.notice := rfl
@[simp] theorem State.modPort_loader : (s.modPort p f).loader = s.loader := rfl
@[simp] theorem State.modPort_lines : (s.modPort p f).lines = s.lines := rfl
@[simp] theorem State.modPort_pending : (s.modPort p f).pending = s.pending := rfl
end

/-! ## modDrive -/

section
variable (a : Axis) (f : DriveAxis → DriveAxis)
@[simp] theorem State.modDrive_link : (s.modDrive a f).link = s.link := rfl
@[simp] theorem State.modDrive_list : (s.modDrive a f).list = s.list := rfl
@[simp] theorem State.modDrive_ctrl : (s.modDrive a f).ctrl = s.ctrl := rfl
@[simp] theorem State.modDrive_traj : (s.modDrive a f).traj = s.traj := rfl
@[simp] theorem State.modDrive_corr : (s.modDrive a f).corr = s.corr := rfl
@[simp] theorem State.modDrive_capture : (s.modDrive a f).capture = s.capture := rfl
@[simp] theorem State.modDrive_time : (s.modDrive a f).time = s.time := rfl
@[simp] theorem State.modDrive_notice : (s.modDrive a f).notice = s.notice := rfl
@[simp] theorem State.modDrive_loader : (s.modDrive a f).loader = s.loader := rfl
@[simp] theorem State.modDrive_lines : (s.modDrive a f).lines = s.lines := rfl
@[simp] theorem State.modDrive_pending : (s.modDrive a f).pending = s.pending := rfl
end

/-! ## modTraj -/

section
variable (a : Axis) (f : TrajectoryAxis → TrajectoryAxis)
@[simp] theorem State.modTraj_link : (s.modTraj a f).link = s.link := rfl
@[simp] theorem State.modTraj_list : (s.modTraj a f).list = s.list := rfl
@[simp] theorem State.modTraj_ctrl : (s.modTraj a f).ctrl = s.ctrl := rfl
@[simp] theorem State.modTraj_corr : (s.modTraj a f).corr = s.corr := rfl
@[simp] theorem State.modTraj_drive : (s.modTraj a f).drive = s.drive := rfl
@[simp] theorem State.modTraj_capture : (s.modTraj a f).capture = s.capture := rfl
@[simp] theorem State.modTraj_time : (s.modTraj a f).time = s.time := rfl
@[simp] theorem State.modTraj_notice : (s.modTraj a f).notice = s.notice := rfl
@[simp] theorem State.modTraj_loader : (s.modTraj a f).loader = s.loader := rfl
@[simp] theorem State.modTraj_lines : (s.modTraj a f).lines = s.lines := rfl
@[simp] theorem State.modTraj_pending : (s.modTraj a f).pending = s.pending := rfl
end

/-! ## modAllTraj -/

section
variable (f : Axis → TrajectoryAxis → TrajectoryAxis)
@[simp] theorem State.modAllTraj_link : (s.modAllTraj f).link = s.link := rfl
@[simp] theorem State.modAllTraj_list : (s.modAllTraj f).list = s.list := rfl
@[simp] theorem State.modAllTraj_ctrl : (s.modAllTraj f).ctrl = s.ctrl := rfl
@[simp] theorem State.modAllTraj_corr : (s.modAllTraj f).corr = s.corr := rfl
@[simp] theorem State.modAllTraj_drive : (s.modAllTraj f).drive = s.drive := rfl
@[simp] theorem State.modAllTraj_capture : (s.modAllTraj f).capture = s.capture := rfl
@[simp] theorem State.modAllTraj_time : (s.modAllTraj f).time = s.time := rfl
@[simp] theorem State.modAllTraj_notice : (s.modAllTraj f).notice = s.notice := rfl
@[simp] theorem State.modAllTraj_loader : (s.modAllTraj f).loader = s.loader := rfl
@[simp] theorem State.modAllTraj_lines : (s.modAllTraj f).lines = s.lines := rfl
@[simp] theorem State.modAllTraj_pending : (s.modAllTraj f).pending = s.pending := rfl
end

/-! ## modCtrl -/

section
variable (f : Controller → Controller)
@[simp] theorem State.modCtrl_link : (s.modCtrl f).link = s.link := rfl
@[simp] theorem State.modCtrl_list : (s.modCtrl f).list = s.list := rfl
@[simp] theorem State.modCtrl_traj : (s.modCtrl f).traj = s.traj := rfl
@[simp] theorem State.modCtrl_corr : (s.modCtrl f).corr = s.corr := rfl
@[simp] theorem State.modCtrl_drive : (s.modCtrl f).drive = s.drive := rfl
@[simp] theorem State.modCtrl_capture : (s.modCtrl f).capture = s.capture := rfl
@[simp] theorem State.modCtrl_time : (s.modCtrl f).time = s.time := rfl
@[simp] theorem State.modCtrl_notice : (s.modCtrl f).notice = s.notice := rfl
@[simp] theorem State.modCtrl_loader : (s.modCtrl f).loader = s.loader := rfl
@[simp] theorem State.modCtrl_lines : (s.modCtrl f).lines = s.lines := rfl
@[simp] theorem State.modCtrl_pending : (s.modCtrl f).pending = s.pending := rfl
end

/-! ## setListState -/

section
variable (l : ListState)
@[simp] theorem State.setListState_link : (s.setListState l).link = s.link := rfl
@[simp] theorem State.setListState_list : (s.setListState l).list = s.list := rfl
@[simp] theorem State.setListState_traj : (s.setListState l).traj = s.traj := rfl
@[simp] theorem State.setListState_corr : (s.setListState l).corr = s.corr := rfl
@[simp] theorem State.setListState_drive : (s.setListState l).drive = s.drive := rfl
@[simp] theorem State.setListState_capture : (s.setListState l).capture = s.capture := rfl
@[simp] theorem State.setListState_time : (s.setListState l).time = s.time := rfl
@[simp] theorem State.setListState_notice : (s.setListState l).notice = s.notice := rfl
@[simp] theorem State.setListState_loader : (s.setListState l).loader = s.loader := rfl
@[simp] theorem State.setListState_lines : (s.setListState l).lines = s.lines := rfl
@[simp] theorem State.setListState_pending : (s.setListState l).pending = s.pending := rfl
end

@[simp] theorem State.modCtrl_ctrl (f : Controller → Controller) : (s.modCtrl f).ctrl = f s.ctrl := rfl

/-! ## Axes and ports -/

@[simp] theorem PerAxis.get_set {α : Type} (v : PerAxis α) (a b : Axis) (x : α) :
    (v.set a x).get b = if b = a then x else v.get b := by
  cases a <;> cases b <;> rfl

@[simp] theorem PerAxis.get_build {α : Type} (f : Axis → α) (a : Axis) : (PerAxis.build f).get a = f a := by
  cases a <;> rfl

@[simp] theorem PerAxis.get_map {α β : Type} (f : α → β) (v : PerAxis α) (a : Axis) : (v.map f).get a = f (v.get a) := by
  cases a <;> rfl

@[simp] theorem PerAxis.get_all {α : Type} (x : α) (a : Axis) : (PerAxis.all x).get a = x := by
  cases a <;> rfl

theorem PerAxis.get_inj {α : Type} {v w : PerAxis α} (h : ∀ a, v.get a = w.get a) : v = w := by
  obtain ⟨_, _, _⟩ := v; obtain ⟨_, _, _⟩ := w
  have h1 := h .az; have h2 := h .el; have h3 := h .rot
  simp only [PerAxis.get] at h1 h2 h3
  subst h1; subst h2; subst h3; rfl

@[simp] theorem PerPort.get_set {α : Type} (v : PerPort α) (p q : Port) (x : α) :
    (v.set p x).get q = if q = p then x else v.get q := by
  cases p <;> cases q <;> rfl

@[simp] theorem PerPort.get_build {α : Type} (f : Port → α) (p : Port) : (PerPort.build f).get p = f p := by
  cases p <;> rfl

@[simp] theorem PerPort.get_all {α : Type} (x : α) (p : Port) : (PerPort.all x).get p = x := by
  cases p <;> rfl

@[simp] theorem State.modPort_get (p q : Port) (f : LinkPort → LinkPort) :
    (s.modPort p f).link.get q = if q = p then f (s.link.get q) else s.link.get q := by
  cases p <;> cases q <;> rfl

@[simp] theorem State.modDrive_get (a b : Axis) (f : DriveAxis → DriveAxis) :
    (s.modDrive a f).drive.get b = if b = a then f (s.drive.get b) else s.drive.get b := by
  cases a <;> cases b <;> rfl

@[simp] theorem State.modTraj_get (a b : Axis) (f : TrajectoryAxis → TrajectoryAxis) :
    (s.modTraj a f).traj.axes.get b = if b = a then f (s.traj.axes.get b) else s.traj.axes.get b := by
  cases a <;> cases b <;> rfl

@[simp] theorem State.modAllTraj_get (a : Axis) (f : Axis → TrajectoryAxis → TrajectoryAxis) :
    (s.modAllTraj f).traj.axes.get a = f a (s.traj.axes.get a) := by
  cases a <;> rfl

/-- A trajectory change leaves the source, the slot and the rest of the unit alone. -/
theorem State.modAllTraj_traj (f : Axis → TrajectoryAxis → TrajectoryAxis) :
    (s.modAllTraj f).traj = { s.traj with axes := PerAxis.build fun a => f a (s.traj.axes.get a) } := rfl

/-! ## The image in force -/

/-- The image in force depends on the loader alone. -/
theorem State.image?_congr {s t : State} (h : s.loader = t.loader) : s.image? = t.image? := by
  simp only [State.image?, h]

theorem State.image_congr {s t : State} (h : s.loader = t.loader) : s.image = t.image := by
  simp only [State.image, State.image?_congr h]

theorem State.isValid_congr {s t : State} (h : s.loader = t.loader) : s.isValid = t.isValid := by
  simp only [State.isValid, State.image?_congr h]

end Sys2Proof.Machine
end

