-- ==== Sys2Proof/Laws/Frames.lean ====
section
/-! SUPPORT. Frames of the shared operations: which blocks each operation leaves as they stood. -/

namespace Sys2Proof.Machine

/-! ## The two frames -/

/-- What the list store, target controller, trajectory, correction, capture and notice units do among themselves: the other
blocks, the lines and the queue stand. -/
structure TargetWork (s t : State) : Prop where
  link : t.link = s.link
  drive : t.drive = s.drive
  time : t.time = s.time
  loader : t.loader = s.loader
  lines : t.lines = s.lines
  pending : t.pending = s.pending

/-- The same with the drive controller among them. -/
structure DriveWork (s t : State) : Prop where
  link : t.link = s.link
  time : t.time = s.time
  loader : t.loader = s.loader
  lines : t.lines = s.lines
  pending : t.pending = s.pending

namespace TargetWork

theorem refl (s : State) : TargetWork s s := ⟨rfl, rfl, rfl, rfl, rfl, rfl⟩

theorem trans {s t u : State} (h : TargetWork s t) (k : TargetWork t u) : TargetWork s u :=
  ⟨k.link.trans h.link, k.drive.trans h.drive, k.time.trans h.time, k.loader.trans h.loader, k.lines.trans h.lines,
   k.pending.trans h.pending⟩

theorem toDrive {s t : State} (h : TargetWork s t) : DriveWork s t := ⟨h.link, h.time, h.loader, h.lines, h.pending⟩

theorem iff {c : Prop} [Decidable c] {s t u : State} (h : TargetWork s t) (k : TargetWork s u) :
    TargetWork s (if c then t else u) := by split <;> assumption

/-- A fold of such work is such work. -/
theorem fold {α : Type} {f : State → α → State} (hf : ∀ s x, TargetWork s (f s x)) (l : List α) :
    ∀ s, TargetWork s (l.foldl f s) := by
  induction l with
  | nil => exact fun s => refl s
  | cons x rest ih => exact fun s => (hf s x).trans (ih _)

end TargetWork

namespace DriveWork

theorem refl (s : State) : DriveWork s s := ⟨rfl, rfl, rfl, rfl, rfl⟩

theorem trans {s t u : State} (h : DriveWork s t) (k : DriveWork t u) : DriveWork s u :=
  ⟨k.link.trans h.link, k.time.trans h.time, k.loader.trans h.loader, k.lines.trans h.lines, k.pending.trans h.pending⟩

theorem iff {c : Prop} [Decidable c] {s t u : State} (h : DriveWork s t) (k : DriveWork s u) :
    DriveWork s (if c then t else u) := by split <;> assumption

/-- A fold of such work is such work. -/
theorem fold {α : Type} {f : State → α → State} (hf : ∀ s x, DriveWork s (f s x)) (l : List α) :
    ∀ s, DriveWork s (l.foldl f s) := by
  induction l with
  | nil => exact fun s => refl s
  | cons x rest ih => exact fun s => (hf s x).trans (ih _)

end DriveWork

/-! ## Notices, records, hand-over -/

@[simp] theorem raise_list (src : NoticeSource) (s : State) : (raise src s).list = s.list := rfl
@[simp] theorem raise_ctrl (src : NoticeSource) (s : State) : (raise src s).ctrl = s.ctrl := rfl
@[simp] theorem raise_traj (src : NoticeSource) (s : State) : (raise src s).traj = s.traj := rfl
@[simp] theorem raise_corr (src : NoticeSource) (s : State) : (raise src s).corr = s.corr := rfl
@[simp] theorem raise_drive (src : NoticeSource) (s : State) : (raise src s).drive = s.drive := rfl
@[simp] theorem raise_capture (src : NoticeSource) (s : State) : (raise src s).capture = s.capture := rfl
@[simp] theorem raise_time (src : NoticeSource) (s : State) : (raise src s).time = s.time := rfl
@[simp] theorem raise_loader (src : NoticeSource) (s : State) : (raise src s).loader = s.loader := rfl
@[simp] theorem raise_lines (src : NoticeSource) (s : State) : (raise src s).lines = s.lines := rfl
@[simp] theorem raise_link (src : NoticeSource) (s : State) : (raise src s).link = s.link := rfl
@[simp] theorem raise_pending (src : NoticeSource) (s : State) : (raise src s).pending = s.pending := rfl
@[simp] theorem raise_notice (src : NoticeSource) (s : State) : (raise src s).notice = raiseIn s.notice src := rfl

theorem raise_work (src : NoticeSource) (s : State) : TargetWork s (raise src s) := ⟨rfl, rfl, rfl, rfl, rfl, rfl⟩

theorem noteEmpty_work (s : State) : TargetWork s (noteEmpty s) := by
  unfold noteEmpty; exact (raise_work _ s).iff (.refl s)

theorem removeWithOutcome_work (r : TargetRecord) (o : OutcomeKind) (e k : Nat) (s : State) :
    TargetWork s (removeWithOutcome r o e k s) := by
  unfold removeWithOutcome
  refine .trans ?_ (noteEmpty_work _)
  exact ⟨rfl, rfl, rfl, rfl, rfl, rfl⟩

theorem removeWithoutOutcome_work (id : Nat) (s : State) : TargetWork s (removeWithoutOutcome id s) := by
  unfold removeWithoutOutcome
  refine .trans ?_ (noteEmpty_work _)
  exact ⟨rfl, rfl, rfl, rfl, rfl, rfl⟩

theorem handOver_work (c : SlotContent) (s : State) : TargetWork s (handOver c s) := ⟨rfl, rfl, rfl, rfl, rfl, rfl⟩

theorem clearCorrections_work (s : State) : TargetWork s (clearCorrections s) := ⟨rfl, rfl, rfl, rfl, rfl, rfl⟩

theorem captureTargetEnded_work (id : Nat) (s : State) : TargetWork s (captureTargetEnded id s) :=
  ⟨rfl, rfl, rfl, rfl, rfl, rfl⟩

/-! ## Starts and endings -/

theorem removeActive_work (o : OutcomeKind) (s : State) : TargetWork s (removeActive o s) := by
  unfold removeActive
  split
  · exact .refl s
  · exact removeWithOutcome_work ..

theorem closeTarget_work (o : OutcomeKind) (s : State) : TargetWork s (closeTarget o s) :=
  (removeActive_work o s).trans ⟨rfl, rfl, rfl, rfl, rfl, rfl⟩

theorem startTarget_work (r : TargetRecord) (k : Int) (s : State) : TargetWork s (startTarget r k s) :=
  ⟨rfl, rfl, rfl, rfl, rfl, rfl⟩

theorem removeInfeasible_work (r : TargetRecord) (s : State) : TargetWork s (removeInfeasible r s) :=
  (removeWithOutcome_work ..).trans (raise_work ..)

theorem chooseStart_work (fuel : Nat) : ∀ s, TargetWork s (chooseStart fuel s) := by
  induction fuel with
  | zero => exact fun s => .refl s
  | succ n ih =>
    intro s
    unfold chooseStart
    split
    · exact .refl s
    · split
      · exact .refl s
      · split
        · exact (removeInfeasible_work ..).trans (ih _)
        · exact ((closeTarget_work _ s).iff (.refl s)).trans (startTarget_work ..)

theorem startCheck_work (s : State) : TargetWork s (startCheck s) := by
  unfold startCheck; exact (chooseStart_work _ s).iff (.refl s)

theorem endTarget_work (o : OutcomeKind) (s : State) : TargetWork s (endTarget o s) := by
  have h := (closeTarget_work o s).trans (startCheck_work _)
  unfold endTarget
  exact (h.trans (handOver_work ..)).iff h

theorem endIfActive_work (o : OutcomeKind) (s : State) : TargetWork s (endIfActive o s) := by
  unfold endIfActive; exact (endTarget_work o s).iff (.refl s)

/-! ## Settling, reports, the list state -/

theorem enterTrack_work (s : State) : TargetWork s (enterTrack s) := by
  unfold enterTrack; exact TargetWork.iff ⟨rfl, rfl, rfl, rfl, rfl, rfl⟩ ⟨rfl, rfl, rfl, rfl, rfl, rfl⟩

theorem judgeSettle_work (s : State) : TargetWork s (judgeSettle s) := by
  unfold judgeSettle
  split
  · split
    · exact .refl s
    · exact (enterTrack_work s).iff ⟨rfl, rfl, rfl, rfl, rfl, rfl⟩
  · exact ⟨rfl, rfl, rfl, rfl, rfl, rfl⟩

theorem arrivalReport_work (n : Nat) (s : State) : TargetWork s (arrivalReport n s) := by
  unfold arrivalReport
  refine .iff (.trans ?_ (judgeSettle_work _)) (.refl s)
  exact ⟨rfl, rfl, rfl, rfl, rfl, rfl⟩

theorem trackingReport_work (a : Axis) (x : Int) (s : State) : TargetWork s (trackingReport a x s) := by
  unfold trackingReport
  split
  · refine .iff (.trans ?_ (judgeSettle_work _)) ?_ <;> exact ⟨rfl, rfl, rfl, rfl, rfl, rfl⟩
  · exact .refl s

theorem offsetMoved_work (s : State) : TargetWork s (offsetMoved s) := by
  unfold offsetMoved
  split <;> exact ⟨rfl, rfl, rfl, rfl, rfl, rfl⟩

theorem endReport_work (o : OutcomeKind) (n : Nat) (s : State) : TargetWork s (endReport o n s) := by
  unfold endReport; exact (endIfActive_work o s).iff (.refl s)

theorem stopList_work (o : OutcomeKind) (s : State) : TargetWork s (stopList o s) := by
  unfold stopList
  refine .trans (.trans ?_ (endIfActive_work o _)) (handOver_work ..)
  exact ⟨rfl, rfl, rfl, rfl, rfl, rfl⟩

theorem cutReport_work (s : State) : TargetWork s (cutReport s) := by
  unfold cutReport
  split
  · exact stopList_work ..
  · exact stopList_work ..
  · exact .refl s
  · exact .refl s

theorem stowRise_work (s : State) : TargetWork s (stowRise s) := by
  unfold stowRise
  refine .trans (.trans (.trans ?_ (endIfActive_work ..)) (handOver_work ..)) (raise_work ..)
  exact ⟨rfl, rfl, rfl, rfl, rfl, rfl⟩

theorem stowFall_work (s : State) : TargetWork s (stowFall s) := by
  unfold stowFall; exact TargetWork.iff ⟨rfl, rfl, rfl, rfl, rfl, rfl⟩ (.refl s)

theorem judgeStow_work (s : State) : TargetWork s (judgeStow s) := by
  unfold judgeStow; exact (stowRise_work s).iff (.refl s)

/-! ## Corrections and captures -/

theorem changeStack_work (stack : List OffsetEntry) (change : PerAxis Int) (s : State) :
    TargetWork s (changeStack stack change s) := by
  have h : TargetWork s (moveTerms change (.all 0) (s.setCorr { s.corr with stack := stack })) :=
    ⟨rfl, rfl, rfl, rfl, rfl, rfl⟩
  unfold changeStack
  exact h.iff (h.trans (offsetMoved_work _))

theorem takeSample_work (x : GuideFigures) (s : State) : TargetWork s (takeSample x s) := by
  unfold takeSample; exact TargetWork.iff ⟨rfl, rfl, rfl, rfl, rfl, rfl⟩ ⟨rfl, rfl, rfl, rfl, rfl, rfl⟩

theorem captureReport_work (a : Axis) (x : TrackingError) (s : State) : TargetWork s (captureReport a x s) := by
  unfold captureReport
  split
  · exact .refl s
  · exact TargetWork.iff ⟨rfl, rfl, rfl, rfl, rfl, rfl⟩ ⟨rfl, rfl, rfl, rfl, rfl, rfl⟩

theorem openEdge_work (e : Nat) (s : State) : TargetWork s (openEdge e s) := by
  unfold openEdge; exact TargetWork.iff (.refl s) ⟨rfl, rfl, rfl, rfl, rfl, rfl⟩

theorem closeEdge_work (e d : Nat) (s : State) : TargetWork s (closeEdge e d s) := by
  unfold closeEdge
  split
  · exact .refl s
  · exact ⟨rfl, rfl, rfl, rfl, rfl, rfl⟩

theorem acceptCandidate_work (c : Candidate) (s : State) : TargetWork s (acceptCandidate c s) := by
  unfold acceptCandidate
  dsimp only
  split
  · refine .trans ?_ (openEdge_work ..)
    exact ⟨rfl, rfl, rfl, rfl, rfl, rfl⟩
  · refine .trans ?_ (closeEdge_work ..)
    exact ⟨rfl, rfl, rfl, rfl, rfl, rfl⟩
  all_goals exact ⟨rfl, rfl, rfl, rfl, rfl, rfl⟩

/-! ## Record expiry and start watches -/

theorem expireRecords_work (rs : List TargetRecord) (s : State) : TargetWork s (expireRecords rs s) :=
  (TargetWork.fold (fun _ _ => removeWithOutcome_work ..) rs s).trans
    (TargetWork.fold (fun t _ => (startCheck_work t).trans (raise_work ..)) rs _)

theorem expireIfDue_work (id : Nat) (s : State) : TargetWork s (expireIfDue id s) := by
  unfold expireIfDue
  split
  · exact .refl s
  · exact (expireRecords_work ..).iff (.refl s)

theorem expireAllDue_work (s : State) : TargetWork s (expireAllDue s) := expireRecords_work ..

/-! ## The drive controller -/

/-- Leaving OFF moves the demand that the next demand step counts from, and nothing else of the axis. -/
theorem leaveOff_frame (st : AxisState) (t : TrajectoryAxis) :
    leaveOff st t = { t with stepFrom := if st = .off then t.demand else t.stepFrom } := by
  cases st <;> rfl

/-- Under STOW a release puts the source reference of EL at the stow elevation and that of AZ and ROT at the demand. -/
theorem releaseAxis_stow (stowElevation : Int) (a : Axis) (actual : Option Int) (t : TrajectoryAxis) :
    (releaseAxis .stow stowElevation a actual t).sourceReference =
      if a = .el then stowElevation else actual.getD t.demand := by
  cases a <;> simp [releaseAxis, baseFor, holdAxis, TrajectoryAxis.sourceReference] <;> omega

theorem enterCut_work (c : CutSource) (a : Axis) (s : State) : DriveWork s (enterCut c a s) := by
  unfold enterCut
  refine .trans ?_ ((cutReport_work _).trans (raise_work ..)).toDrive
  exact ⟨rfl, rfl, rfl, rfl, rfl⟩

theorem chainCut_work (fuel : Nat) : ∀ a s, DriveWork s (chainCut fuel a s) := by
  induction fuel with
  | zero => exact fun _ s => .refl s
  | succ n ih =>
    intro a s
    unfold chainCut
    exact DriveWork.fold (fun t b => ((enterCut_work _ b t).trans (ih b _)).iff (.refl t)) _ s

theorem cutOwn_work (c : CutSource) (a : Axis) (s : State) : DriveWork s (cutOwn c a s) := by
  unfold cutOwn; exact ((enterCut_work c a s).trans (chainCut_work _ a _)).iff (.refl s)

theorem cutByLine_work (c : CutSource) (s : State) : DriveWork s (cutByLine c s) :=
  (DriveWork.fold (fun t a => enterCut_work c a t) _ s).trans (DriveWork.fold (fun t a => chainCut_work _ a t) _ _)

theorem enterOn_work (a : Axis) (s : State) : DriveWork s (enterOn a s) := by
  unfold enterOn
  refine .iff (.trans ?_ (startCheck_work _).toDrive) ?_ <;> exact ⟨rfl, rfl, rfl, rfl, rfl⟩

theorem enterReleasing_work (a : Axis) (s : State) : DriveWork s (enterReleasing a s) := by
  unfold enterReleasing
  refine .iff (.trans ?_ (enterOn_work a _)) ?_ <;> exact ⟨rfl, rfl, rfl, rfl, rfl⟩

theorem enterStopping_work (a : Axis) (s : State) : DriveWork s (enterStopping a s) := ⟨rfl, rfl, rfl, rfl, rfl⟩

theorem enterOff_work (a : Axis) (s : State) : DriveWork s (enterOff a s) := ⟨rfl, rfl, rfl, rfl, rfl⟩

theorem atRest_work (a : Axis) (s : State) : DriveWork s (atRest a s) := by
  unfold atRest
  split
  · exact DriveWork.iff ⟨rfl, rfl, rfl, rfl, rfl⟩ ⟨rfl, rfl, rfl, rfl, rfl⟩
  all_goals exact .refl s

theorem followingRise_work (a : Axis) (s : State) : DriveWork s (followingRise a s) := by
  unfold followingRise
  refine .trans ?_ (cutOwn_work ..)
  exact ⟨rfl, rfl, rfl, rfl, rfl⟩

theorem judgeFollowing_work (a : Axis) (x : Int) (s : State) : DriveWork s (judgeFollowing a x s) := by
  unfold judgeFollowing
  dsimp only
  split
  · split
    · exact .refl s
    · exact (followingRise_work a s).iff ⟨rfl, rfl, rfl, rfl, rfl⟩
  · exact ⟨rfl, rfl, rfl, rfl, rfl⟩

theorem formError_work (a : Axis) (f : OpenFrame) (x : Int) (s : State) : DriveWork s (formError a f x s) := by
  unfold formError
  refine .trans ?_ ((judgeFollowing_work a _ _).trans ((trackingReport_work ..).trans (captureReport_work ..)).toDrive)
  exact ⟨rfl, rfl, rfl, rfl, rfl⟩

theorem countReply_work (a : Axis) (f : OpenFrame) (r : DriveReply) (s : State) : DriveWork s (countReply a f r s) := by
  have h1 : DriveWork s (s.modDrive a (countedDrive r)) := ⟨rfl, rfl, rfl, rfl, rfl⟩
  unfold countReply
  dsimp only
  have h2 : DriveWork s (if r.status = .fault ∧ (s.drive.get a).lastStatus ≠ some .fault then
      cutOwn .driveFault a (s.modDrive a (countedDrive r)) else s.modDrive a (countedDrive r)) :=
    (h1.trans (cutOwn_work ..)).iff h1
  exact (h2.trans (formError_work ..)).iff h2

theorem judgeReply_work (a : Axis) (r : DriveReply) (s : State) : DriveWork s (judgeReply a r s) := by
  unfold judgeReply
  split
  · exact .refl s
  · exact (countReply_work ..).iff (.refl s)

theorem takeDriveCharacter_work (a : Axis) (b : Byte) (s : State) : DriveWork s (takeDriveCharacter a b s) := by
  unfold takeDriveCharacter
  dsimp only
  split
  · exact ⟨rfl, rfl, rfl, rfl, rfl⟩
  · refine .trans ?_ (judgeReply_work ..)
    exact ⟨rfl, rfl, rfl, rfl, rfl⟩

theorem silenceAxis_work (s : State) (a : Axis) : DriveWork s (silenceAxis s a) := by
  unfold silenceAxis
  dsimp only
  split
  · exact .refl s
  · have h : DriveWork s (if (s.drive.get a).silence = 0 then
        raise .driveSilent (s.modDrive a fun d =>
          { d with silence := min silenceLimit ((s.drive.get a).silence + 1), openFrame := none })
        else s.modDrive a fun d =>
          { d with silence := min silenceLimit ((s.drive.get a).silence + 1), openFrame := none }) :=
      DriveWork.iff ⟨rfl, rfl, rfl, rfl, rfl⟩ ⟨rfl, rfl, rfl, rfl, rfl⟩
    exact (h.trans (cutOwn_work ..)).iff h

theorem silenceCheck_work (s : State) : DriveWork s (silenceCheck s) := DriveWork.fold silenceAxis_work _ s

theorem sendFrames_work (t : Nat) (s : State) : DriveWork s (sendFrames t s) := by
  unfold sendFrames; exact DriveWork.iff ⟨rfl, rfl, rfl, rfl, rfl⟩ (.refl s)

end Sys2Proof.Machine
end

