-- ==== Sys2Proof/Laws/Link.lean ====
section
/-! SUPPORT. Laws of the link interface: what carrying out a request, answering it and taking a frame can do. -/

namespace Sys2Proof.Machine

/-! ## Request kinds (R174) -/

theorem requestKindOf_number (k : RequestKind) : requestKindOf k.number = some k := by cases k <;> rfl

/-- Every LEN the table gives is one a receiver assembles (R165, R174). -/
theorem lenOk_le {k : RequestKind} {n : Nat} (h : k.lenOk n = true) : n ≤ requestLenMax := by
  cases k <;> simp [RequestKind.lenOk] at h <;> simp only [requestLenMax] <;> omega

/-! ## One port (R168) -/

@[simp] theorem beginReply_buffers (q : LinkPort) : (beginReply q).buffers = q.buffers := by
  unfold beginReply; split <;> rfl

@[simp] theorem beginReply_replies (q : LinkPort) : (beginReply q).replies = q.replies := by
  unfold beginReply; split <;> rfl

@[simp] theorem beginReply_rights (q : LinkPort) : (beginReply q).rights = q.rights := by
  unfold beginReply; split <;> rfl

@[simp] theorem queueReply_buffers (r : Reply) (q : LinkPort) : (queueReply r q).buffers = q.buffers := by
  unfold queueReply; split <;> simp

@[simp] theorem queueReply_replies (r : Reply) (q : LinkPort) : (queueReply r q).replies = q.replies ++ [r] := by
  unfold queueReply; split <;> simp_all

@[simp] theorem queueReply_rights (r : Reply) (q : LinkPort) : (queueReply r q).rights = q.rights := by
  unfold queueReply; split <;> simp

@[simp] theorem noteRefusal_buffers (s : State) (f : Frame) (c : Code) (q : LinkPort) :
    (noteRefusal s f c q).buffers = q.buffers := by
  unfold noteRefusal; split <;> rfl

@[simp] theorem noteRefusal_replies (s : State) (f : Frame) (c : Code) (q : LinkPort) :
    (noteRefusal s f c q).replies = q.replies := by
  unfold noteRefusal; split <;> rfl

@[simp] theorem noteRefusal_rights (s : State) (f : Frame) (c : Code) (q : LinkPort) :
    (noteRefusal s f c q).rights = q.rights := by
  unfold noteRefusal; split <;> rfl

@[simp] theorem answerPort_buffers (s : State) (f : Frame) (c : Code) (d : ReplyData) (q : LinkPort) :
    (answerPort s f c d q).buffers = markCarried q.buffers := by
  simp [answerPort]

@[simp] theorem answerPort_replies (s : State) (f : Frame) (c : Code) (d : ReplyData) (q : LinkPort) :
    (answerPort s f c d q).replies = q.replies ++ [⟨f.kind, f.tag, c, d⟩] := by
  simp [answerPort]

@[simp] theorem answerPort_rights (s : State) (f : Frame) (c : Code) (d : ReplyData) (q : LinkPort) :
    (answerPort s f c d q).rights = q.rights := by
  simp [answerPort]

/-! ## Waiting requests (R167, R168) -/

/-- With nothing waiting before it, a frame that enters is the oldest waiting. -/
theorem oldestWaiting_append {bs : List Held} (f : Frame) (h : oldestWaiting bs = none) :
    oldestWaiting (bs ++ [⟨f, false⟩]) = some f := by
  induction bs with
  | nil => rfl
  | cons b rest ih =>
    cases hc : b.carried
    · simp [oldestWaiting, hc] at h
    · simp only [oldestWaiting, hc, if_true] at h
      simp [oldestWaiting, hc, ih h]

/-- Carrying out that frame marks it and leaves the others. -/
theorem markCarried_append {bs : List Held} (f : Frame) (h : oldestWaiting bs = none) :
    markCarried (bs ++ [⟨f, false⟩]) = bs ++ [⟨f, true⟩] := by
  induction bs with
  | nil => rfl
  | cons b rest ih =>
    cases hc : b.carried
    · simp [oldestWaiting, hc] at h
    · simp only [oldestWaiting, hc, if_true] at h
      simp [markCarried, hc, ih h]

/-- Nothing waits once each request held is carried out. -/
theorem oldestWaiting_carried {bs : List Held} (f : Frame) (h : oldestWaiting bs = none) :
    oldestWaiting (bs ++ [⟨f, true⟩]) = none := by
  induction bs with
  | nil => rfl
  | cons b rest ih =>
    cases hc : b.carried
    · simp [oldestWaiting, hc] at h
    · simp only [oldestWaiting, hc, if_true] at h
      simp [oldestWaiting, hc, ih h]

/-! ## A request that its port takes -/

/-- The port of a received frame holds it behind what it held. -/
@[simp] theorem received_buffers (p : Port) (f : Frame) (s : State) :
    ((received p f s).link.get p).buffers = (s.link.get p).buffers ++ [⟨f, false⟩] := by
  simp [received]

theorem sameRequest_self (p : Port) (f : Frame) : sameRequest p f f = true := by simp [sameRequest]

/-- Sweeping changes nothing once every request held is carried out. -/
theorem sweepRefusals_done {p : Port} {s : State} (n : Nat) (h : oldestWaiting (s.link.get p).buffers = none) :
    sweepRefusals p n s = s := by
  cases n with
  | zero => rfl
  | succ m => unfold sweepRefusals; rw [h]

/-- What a served request does, whole: its block's answer to the frame just taken in, with the reply formed. -/
theorem serve_served {c : Instr} {k : RequestKind} {p : Port} {tag : Byte} {payload : List Byte} {body : State → Answer}
    {s : State} (hr : c.request = some (p, requestFrame k tag payload)) (hl : k.lenOk (payload.length / 2) = true)
    (h : Served k p s)
    (hb : (body (received p (requestFrame k tag payload) s)).state.link = (received p (requestFrame k tag payload) s).link) :
    serve c body s =
      answered (received p (requestFrame k tag payload) s) p (requestFrame k tag payload)
        (body (received p (requestFrame k tag payload) s)).code (body (received p (requestFrame k tag payload) s)).data
        (body (received p (requestFrame k tag payload) s)).state := by
  obtain ⟨h1, h2, h3, h4⟩ := h
  generalize hf : requestFrame k tag payload = f at *
  have hk : requestKindOf f.kind = some k := by rw [← hf]; exact requestKindOf_number k
  have hlen : f.len = payload.length / 2 := by rw [← hf]; rfl
  have hno : isOldest p f s = false := by simp [isOldest, h2.1]
  have harr : arrive p f s = received p f s := by
    have hm : ¬requestLenMax < f.len := by rw [hlen]; exact Nat.not_lt.mpr (lenOk_le hl)
    simp [arrive, hno, hm, handOn, h2.2, received]
  have hold : isOldest p f (received p f s) = true := by
    simp [isOldest, oldestWaiting_append f h2.1, sameRequest_self]
  have hj : judgeRequest (received p f s) p f = none := by
    have hv : (received p f s).isValid = s.isValid := rfl
    have hri : ((received p f s).link.get p).rights = (s.link.get p).rights := by simp [received]
    unfold judgeRequest
    rw [hk]
    simp only [hlen, hl, hv, hri, h4, Bool.not_true]
    cases hn : needsRight k
    · simp
    · simp [h3 hn]
  have hres : State.heldInReset s = false := h1
  unfold serve
  rw [hres, hr]
  simp only [Bool.false_eq_true, if_false]
  unfold serveFrame
  simp only [harr, hold, if_true]
  unfold carryOut
  simp only [hj]
  rw [sweepRefusals_done]
  · rfl
  · simp [hb, markCarried_append f h2.1, oldestWaiting_carried f h2.1]

end Sys2Proof.Machine
end

