-- ==== Sys2Proof/Laws/PerInstr.lean ====
section
/-! SUPPORT. PerInstr: a statement about every command as syntax: the request it spells fits a frame of its kind. -/

namespace Sys2Proof.Laws.Framed

/-- The request a well-formed command spells has a KIND of R174's table and a LEN that the table gives that kind, in whole
words and no more than a receiver assembles (R164, R165, R174). -/
def Statement (i : Instr) : Prop :=
  ∀ p f, i.request = some (p, f) → i.wellFormed = true →
    ∃ k, requestKindOf f.kind = some k ∧ k.lenOk f.len = true ∧ f.payload.length % 2 = 0 ∧
      f.len ≤ Machine.requestLenMax

theorem nodeBytes_length (n : WireNode) : (nodeBytes n).length = 30 := rfl

theorem headerBytes_length (h : WireHeader) : (headerBytes h).length = 20 := rfl

theorem nodes_length (ns : List WireNode) : (ns.flatMap nodeBytes).length = 30 * ns.length := by
  induction ns with
  | nil => rfl
  | cons n rest ih => simp only [List.flatMap_cons, List.length_append, ih, nodeBytes_length, List.length_cons]; omega

theorem words_length (ws : List Word) : (ws.flatMap bytes4).length = 4 * ws.length := by
  induction ws with
  | nil => rfl
  | cons w rest ih => simp only [List.flatMap_cons, List.length_append, ih, List.length_cons]; simp [bytes4]; omega

/-- An event spells no request. -/
theorem of_event {i : Instr} (h : i.request = none) : Statement i := by
  intro p f hr
  rw [h] at hr
  cases hr

/-- A request of a payload of so many bytes, which the table gives the kind. -/
theorem of_request {i : Instr} (k : RequestKind) (n : Nat) {p : Port} {t : Byte} {bs : List Byte}
    (h : i.request = some (p, ⟨k.number, t, bs⟩)) (hn : bs.length = n)
    (hk : requestKindOf k.number = some k ∧ k.lenOk (n / 2) = true ∧ n % 2 = 0 ∧ n / 2 ≤ 96) : Statement i := by
  intro q g hr _
  rw [h] at hr
  cases hr
  subst hn
  exact ⟨k, hk⟩

theorem powerOn (loadsel : Bool) : Statement (.powerOn loadsel) := of_event rfl

theorem resetAssert : Statement .resetAssert := of_event rfl

theorem resetFall (loadsel : Bool) : Statement (.resetFall loadsel) := of_event rfl

theorem configMemoryReadEnd (bytes : List Byte) : Statement (.configMemoryReadEnd bytes) := of_event rfl

theorem portRateChange (port : Port) : Statement (.portRateChange port) := of_event rfl

theorem linkCharacter (port : Port) (char : Byte) : Statement (.linkCharacter port char) := of_event rfl

theorem linkGapExpiry (port : Port) : Statement (.linkGapExpiry port) := of_event rfl

theorem replySent (port : Port) : Statement (.replySent port) := of_event rfl

theorem addTarget (port : Port) (tag : Byte) (header : WireHeader) (nodes : List WireNode) :
    Statement (.addTarget port tag header nodes) := by
  intro p f hr hw
  cases hr
  obtain ⟨h1, h4⟩ : 1 ≤ nodes.length ∧ nodes.length ≤ 4 := by
    simpa [Instr.wellFormed, nodesWellFormed] using hw
  refine ⟨.addTarget, rfl, ?_, ?_, ?_⟩ <;>
    simp only [Frame.len, RequestKind.lenOk, Machine.requestLenMax, List.length_append, headerBytes_length, nodes_length]
  · obtain h | h | h | h : nodes.length = 1 ∨ nodes.length = 2 ∨ nodes.length = 3 ∨ nodes.length = 4 := by omega
    all_goals rw [h]; rfl
  · omega
  · omega

theorem appendNodes (port : Port) (tag : Byte) (id : Half) (nodes : List WireNode) :
    Statement (.appendNodes port tag id nodes) := by
  intro p f hr hw
  cases hr
  obtain ⟨h1, h4⟩ : 1 ≤ nodes.length ∧ nodes.length ≤ 4 := by
    simpa [Instr.wellFormed, nodesWellFormed] using hw
  refine ⟨.appendNodes, rfl, ?_, ?_, ?_⟩ <;>
    simp only [Frame.len, RequestKind.lenOk, Machine.requestLenMax, List.length_append, nodes_length, bytes2,
      List.length_cons, List.length_nil]
  · obtain h | h | h | h : nodes.length = 1 ∨ nodes.length = 2 ∨ nodes.length = 3 ∨ nodes.length = 4 := by omega
    all_goals rw [h]; rfl
  · omega
  · omega

theorem deleteTarget (port : Port) (tag : Byte) (id : Half) :
    Statement (.deleteTarget port tag id) := of_request .deleteTarget 2 rfl rfl (by decide)

theorem readList (port : Port) (tag : Byte) (position : Byte) :
    Statement (.readList port tag position) := of_request .readList 2 rfl rfl (by decide)

theorem readOutcomes (port : Port) (tag : Byte) (after : Word) :
    Statement (.readOutcomes port tag after) := of_request .readOutcomes 4 rfl rfl (by decide)

theorem run (port : Port) (tag : Byte) : Statement (.run port tag) := of_request .run 0 rfl rfl (by decide)

theorem hold (port : Port) (tag : Byte) : Statement (.hold port tag) := of_request .hold 0 rfl rfl (by decide)

theorem stop (port : Port) (tag : Byte) : Statement (.stop port tag) := of_request .stop 0 rfl rfl (by decide)

theorem abort (port : Port) (tag : Byte) (id : Half) :
    Statement (.abort port tag id) := of_request .abort 2 rfl rfl (by decide)

theorem release (port : Port) (tag : Byte) (id : Half) :
    Statement (.release port tag id) := of_request .release 2 rfl rfl (by decide)

theorem readSequence (port : Port) (tag : Byte) :
    Statement (.readSequence port tag) := of_request .readSequence 0 rfl rfl (by decide)

theorem setTime (port : Port) (tag : Byte) (time : SiteTimeWord) :
    Statement (.setTime port tag time) := of_request .setTime 6 rfl rfl (by decide)

theorem readTime (port : Port) (tag : Byte) :
    Statement (.readTime port tag) := of_request .readTime 0 rfl rfl (by decide)

theorem readPointing (port : Port) (tag : Byte) :
    Statement (.readPointing port tag) := of_request .readPointing 0 rfl rfl (by decide)

theorem readPredict (port : Port) (tag : Byte) (lead : Half) :
    Statement (.readPredict port tag lead) := of_request .readPredict 2 rfl rfl (by decide)

theorem forceGust (port : Port) (tag : Byte) :
    Statement (.forceGust port tag) := of_request .forceGust 0 rfl rfl (by decide)

theorem clearForce (port : Port) (tag : Byte) :
    Statement (.clearForce port tag) := of_request .clearForce 0 rfl rfl (by decide)

theorem guideSample (port : Port) (tag : Byte) (dx dy : Half) :
    Statement (.guideSample port tag dx dy) := of_request .guideSample 4 rfl rfl (by decide)

theorem guideReset (port : Port) (tag : Byte) :
    Statement (.guideReset port tag) := of_request .guideReset 0 rfl rfl (by decide)

theorem pushOffset (port : Port) (tag : Byte) (dx dy drot : Word) :
    Statement (.pushOffset port tag dx dy drot) := of_request .pushOffset 12 rfl rfl (by decide)

theorem popOffset (port : Port) (tag : Byte) :
    Statement (.popOffset port tag) := of_request .popOffset 0 rfl rfl (by decide)

theorem clearOffsets (port : Port) (tag : Byte) :
    Statement (.clearOffsets port tag) := of_request .clearOffsets 0 rfl rfl (by decide)

theorem readCorrections (port : Port) (tag : Byte) :
    Statement (.readCorrections port tag) := of_request .readCorrections 0 rfl rfl (by decide)

theorem enableAxes (port : Port) (tag : Byte) (mask : Byte) :
    Statement (.enableAxes port tag mask) := of_request .enableAxes 2 rfl rfl (by decide)

theorem disableAxes (port : Port) (tag : Byte) (mask : Byte) :
    Statement (.disableAxes port tag mask) := of_request .disableAxes 2 rfl rfl (by decide)

theorem setCutMask (port : Port) (tag : Byte) (axis mask : Byte) :
    Statement (.setCutMask port tag axis mask) := of_request .setCutMask 2 rfl rfl (by decide)

theorem readAxes (port : Port) (tag : Byte) :
    Statement (.readAxes port tag) := of_request .readAxes 0 rfl rfl (by decide)

theorem readCaptures (port : Port) (tag : Byte) :
    Statement (.readCaptures port tag) := of_request .readCaptures 0 rfl rfl (by decide)

theorem readStatus (port : Port) (tag : Byte) :
    Statement (.readStatus port tag) := of_request .readStatus 0 rfl rfl (by decide)

theorem readNotices (port : Port) (tag : Byte) :
    Statement (.readNotices port tag) := of_request .readNotices 0 rfl rfl (by decide)

theorem setRouting (port : Port) (tag : Byte) (source mask level : Byte) :
    Statement (.setRouting port tag source mask level) := of_request .setRouting 4 rfl rfl (by decide)

theorem setThreshold (port : Port) (tag : Byte) (threshold : Byte) :
    Statement (.setThreshold port tag threshold) := of_request .setThreshold 2 rfl rfl (by decide)

theorem siteWords (port : Port) (tag : Byte) (start : Half) (words : List Word) :
    Statement (.siteWords port tag start words) := by
  intro p f hr hw
  cases hr
  obtain ⟨h1, h4⟩ : 1 ≤ words.length ∧ words.length ≤ 16 := by
    simpa [Instr.wellFormed, wordsWellFormed] using hw
  refine ⟨.siteWords, rfl, ?_, ?_, ?_⟩ <;>
    simp only [Frame.len, RequestKind.lenOk, Machine.requestLenMax, List.length_append, words_length, bytes2,
      List.length_cons, List.length_nil, Bool.and_eq_true, decide_eq_true_eq, beq_iff_eq]
  · omega
  · omega
  · omega

theorem restart (port : Port) (tag : Byte) :
    Statement (.restart port tag) := of_request .restart 0 rfl rfl (by decide)

theorem ppsEdge : Statement .ppsEdge := of_event rfl

theorem ppsHoldEnd : Statement .ppsHoldEnd := of_event rfl

theorem pulseWatchExpiry : Statement .pulseWatchExpiry := of_event rfl

theorem clockAtLargestValue : Statement .clockAtLargestValue := of_event rfl

theorem demandInstant (gust : Bool) : Statement (.demandInstant gust) := of_event rfl

theorem driveReply (axis : Axis) (chars : List Byte) : Statement (.driveReply axis chars) := of_event rfl

theorem graceTimerExpiry (axis : Axis) : Statement (.graceTimerExpiry axis) := of_event rfl

theorem cutSourceRise (line : CutLine) (level : Bool) : Statement (.cutSourceRise line level) := of_event rfl

theorem brakeTimerExpiryReleasing (axis : Axis) : Statement (.brakeTimerExpiryReleasing axis) := of_event rfl

theorem brakeTimerExpirySetting (axis : Axis) : Statement (.brakeTimerExpirySetting axis) := of_event rfl

theorem startWatchExpiry (id : Half) : Statement (.startWatchExpiry id) := of_event rfl

theorem recordExpiry (id : Half) : Statement (.recordExpiry id) := of_event rfl

theorem settleHoldExpiry : Statement .settleHoldExpiry := of_event rfl

theorem settleTimeoutExpiry : Statement .settleTimeoutExpiry := of_event rfl

theorem dwellExpiry : Statement .dwellExpiry := of_event rfl

theorem stowRise : Statement .stowRise := of_event rfl

theorem stowFall : Statement .stowFall := of_event rfl

theorem domeReadyChange (level : Bool) : Statement (.domeReadyChange level) := of_event rfl

theorem shutterChange (level : Bool) : Statement (.shutterChange level) := of_event rfl

theorem shutterCandidateAccepted : Statement .shutterCandidateAccepted := of_event rfl

end Sys2Proof.Laws.Framed
end

