-- ==== Sys2Proof/Tests/Slice0.lean ====
section
/-! SUPPORT. Tests: the well-formedness smoke tests, values the spec works out, one step of the part at a time, and for each
statement with hypotheses a concrete case that meets them. -/

namespace Sys2Proof.Tests

open Sys2Proof Sys2Proof.Machine

/-! ## Cases -/

/-- The state a command leaves. -/
def after (c : Instr) (s : State) : State :=
  match exec c s with
  | .next t => t
  | .fault _ => s
  | .refused _ => s

def header (start expire : Nat) (wrap options : Byte) : WireHeader :=
  ⟨401, BitVec.ofNat 48 start, BitVec.ofNat 48 expire, 0, wrap, options⟩

def wire (time : Nat) : WireNode := ⟨BitVec.ofNat 48 time, 0, 0, 0, 0, 0, 0⟩

/-- An image in force: the guide coefficients of R115's example, all sources routed to every port at level 1. -/
def image : SiteImage :=
  { noImage with
    filterUs := 100
    ports := .all ⟨2, true, true, true, 1⟩
    azLow := -97200000
    azHigh := 97200000
    elCeil := 32400000
    rotLow := -64800000
    rotHigh := 64800000
    horizon := List.replicate 36 0
    calm := .all ⟨40, 10⟩
    gust := .all ⟨25, 7⟩
    tolerance := .all 1000
    brakeMs := .all 20
    followLimit := .all 1000000
    settleHoldMs := 2000
    followGraceMs := 200
    settleTimeoutMs := 20000
    stepLimit := 1500
    guideRange := 60000
    offsetRange := 20000
    ringDepth := 3
    coefficients := [128, 64, 64, 0, 0, 0, 0, 0]
    stowElevation := 16200000
    routing := List.replicate 12 ⟨15, 1⟩ }

def onAxis : DriveAxis :=
  { DriveAxis.reset with state := .on, enable := true, brake := true, lastActual := some 0 }

/-- VALID at ST 10 s with the clock FREE, every right on every port, every axis ON, the list in STOP. -/
def ready : State :=
  { State.reset with
    link := .all { LinkPort.reset with rate := 2, rights := ⟨true, true, true⟩ }
    corr := { Correction.reset with ring := List.replicate 3 (0, 0) }
    drive := .all onAxis
    time := { TimeBase.reset with
      clock := 10000000, elapsed := 10000000, status := .free, nextInstant := .atSiteTime 10010000 }
    notice := { Notices.reset with routing := image.routing }
    loader := { Loader.start true with state := .valid image, words := [], length := some 64 } }

def waitingTarget : TargetRecord :=
  { id := 401, start := 9995000, expire := 12000000, dwell := 0, wrap := .nearest, options := ⟨true, true, false⟩
    status := .waiting, serial := 1, nodes := [⟨9990000, ⟨0, 0, 0⟩, ⟨0, 0, 0⟩⟩], late := false, actualStart := none
    firstTrack := none, guideCount := 0 }

def inState (l : ListState) (s : State) : State := { s with ctrl := { s.ctrl with listState := l } }

def axesIn (d : AxisState) (s : State) : State := { s with drive := s.drive.map fun x => { x with state := d } }

def withRecord (r : TargetRecord) (s : State) : State :=
  { s with
    list := { s.list with records := [r], nextSerial := 2 }
    ctrl := { s.ctrl with watches := if r.status = .waiting then [⟨r.id, r.start, false⟩] else [] } }

/-- The record waits, its start time reached. -/
def waiting : State := withRecord waitingTarget ready

/-- The record is active in a phase, with its timers. -/
def active (phase : Phase) : State :=
  let s := withRecord { waitingTarget with status := .active, actualStart := some 9995000 } ready
  { s with
    ctrl := { s.ctrl with
      listState := .run, phase := phase, activeId := 401, options := ⟨true, true, false⟩
      settleTimeout := if phase = .track then none else some 10000000
      settleHold := if phase = .settle then some 10000000 else none
      dwellTimer := if phase = .approach then none else some 10000000
      trackEntry := if phase = .track then some 9999000 else none, serial := 1 } }

def inReset (s : State) : State := { s with lines := { s.lines with reset := true } }

/-- The image of 64 words with the values of `image`, without checks on the rates. -/
def imageWords : List Word :=
  [0x440A0040, 10, 100, 0x003E003E, 0x003E003E, 0xFA34D880, 0x05CB2780, 0, 32400000, 0xFC233B00, 64800000] ++
  List.replicate 18 0 ++
  [40, 10, 40, 10, 40, 10, 25, 7, 25, 7, 25, 7, 0, 0, 0, 0x14003E8, 0x14003E8, 0x14003E8] ++
  [1000000, 1000000, 1000000, 0x00C807D0, 20000, 0, 0xEA6005DC, 0x03004E20, 0x00400080, 0x00000040, 0, 0, 16200000] ++
  [0x1F1F1F1F, 0x1F1F1F1F, 0x1F1F1F1F]

def goodImage : List Word := imageWords ++ [0 - imageWords.foldl (· + ·) 0]

def passes (v : Verdict) : Bool :=
  match v with
  | .pass _ => true
  | .fail _ => false

/-! ## WellFormed: an ill-formed term for each check -/

theorem test_add_without_nodes_is_ill_formed :
    (Instr.addTarget .p0 0 (header 0 1 0 0) []).wellFormed = false ∧
    (Instr.addTarget .p0 0 (header 0 1 0 0) (List.replicate 5 (wire 0))).wellFormed = false := by decide

theorem test_append_node_count_is_checked :
    (Instr.appendNodes .p0 0 401 []).wellFormed = false ∧
    (Instr.appendNodes .p0 0 401 (List.replicate 5 (wire 0))).wellFormed = false := by decide

theorem test_site_words_count_is_checked :
    (Instr.siteWords .p0 0 0 []).wellFormed = false ∧
    (Instr.siteWords .p0 0 0 (List.replicate 17 0)).wellFormed = false := by decide

theorem test_memory_is_at_most_256_words :
    (Instr.configMemoryReadEnd (List.replicate 1025 0)).wellFormed = false := by decide +kernel

theorem test_drive_reply_has_characters :
    (Instr.driveReply .az []).wellFormed = false ∧
    (Instr.driveReply .az (List.replicate 199 0)).wellFormed = false := by decide +kernel

theorem test_target_id_0_has_no_watch_and_no_record :
    (Instr.startWatchExpiry 0).wellFormed = false ∧ (Instr.recordExpiry 0).wellFormed = false := by decide

/-! ## Frames -/

/-- R164, R166: the READ_TIME request with tag 7, written out from the layout. -/
theorem test_frame_of_read_time :
    frameBytes ⟨0x21, 7, []⟩ = [0xC3, 0x00, 0x21, 0x07, 0x89, 0xAC] := by decide +kernel

/-- R174, R175: kind 0x52 carries the axis, then the mask. -/
theorem test_decode_set_cut_mask :
    decodeRequest .p2 ⟨0x52, 9, [2, 0x81]⟩ = some (.setCutMask .p2 9 2 0x81) := by decide

/-- R175: SET_TIME carries one 6-byte time, high byte first. -/
theorem test_decode_set_time :
    decodeRequest .p0 ⟨0x20, 1, [0, 0, 0, 0x98, 0x96, 0x80]⟩ = some (.setTime .p0 1 10000000) := by decide

/-- R176: the offsets of the target header and of node 0. -/
theorem test_decode_add_target :
    decodeRequest .p0
        ⟨0x01, 0, [0x01, 0x91, 0, 0, 0, 0, 0, 5, 0, 0, 0, 0, 1, 0, 0, 0, 0, 9, 1, 6] ++
          [0, 0, 0, 0, 0, 7, 0, 0, 0, 1, 0, 0, 0, 2, 0xFF, 0xFF, 0xFF, 0xFE, 0, 0, 0, 4, 0, 0, 0, 5, 0, 0, 0, 6]⟩ =
      some (.addTarget .p0 0 ⟨401, 5, 256, 9, 1, 6⟩ [⟨7, 1, 2, 0xFFFFFFFE, 4, 5, 6⟩]) := by decide

/-- R174: an unknown kind, and a LEN the table does not give. -/
theorem test_decode_refuses :
    decodeRequest .p0 ⟨0x99, 0, []⟩ = none ∧ decodeRequest .p0 ⟨0x10, 0, [0, 0]⟩ = none := by decide

/-! ## Arithmetic the spec works out -/

/-- R71's table. -/
theorem test_track_values :
    trackValue 40000000 384000 2500000 0 = 40003750 ∧ trackValue 40000000 384000 1234567 0 = 40001852 ∧
    trackValue 40000000 384000 0 1234567 = 39998148 ∧ trackValue 40000000 (-384000) 1234567 0 = 39998148 := by decide

/-- R94's table, and its example with a = 7. -/
theorem test_braking_distances :
    [0, 5, 10, 15, 20, 25, 30, 40].map (brakingDistance 10) = [0, 0, 0, 5, 10, 20, 30, 60] ∧
    brakingDistance 7 20 = 19 := by decide

/-- R86's table. -/
theorem test_sectors :
    [38000000, -91600000, 129599999, -1, 3600000].map sectorOf = [10, 10, 35, 35, 1] := by decide

/-- R106, R107: the entries the rule names, and whole multiples of 45°. -/
theorem test_sines :
    sine 0 = 0 ∧ sine 16200000 = 759250125 ∧ sine 32400000 = 1073741824 ∧ sine 97200000 = -1073741824 := by
  decide +kernel

/-- R115's two examples. -/
theorem test_filter :
    (filterRing image.coefficients [(100, 0), (40, 0), (-20, 0)]).1 = 55 ∧
    (filterRing image.coefficients [(101, 0), (40, 0), (-20, 0)]).1 = 56 := by decide

/-- R72: the example across north. -/
theorem test_reduce_across_north : reduceHalf (80040 - 129500000) = 180040 := by decide

/-- R33: a track near north is placed on the turn nearest the demand, or the lowest or highest feasible one. -/
theorem test_wrap_choice :
    let nodes := [(⟨0, ⟨36000000, 0, 0⟩, ⟨0, 0, 0⟩⟩ : TrackNode)]
    [WrapPreference.nearest, .low, .high].map (fun w => wrapChoice image 0 (-80000000) w nodes) =
      [some (-129600000), some (-129600000), some 0] := by decide

/-! ## One step at a time -/

theorem test_step_pops_the_queue :
    step { ready with pending := [.domeReadyChange true, .stowRise] } =
      .next { ready with pending := [.stowRise], lines := { ready.lines with domeReady := true } } := by rfl

/-- R55, R64: the clock counts to the first demand instant, which is then queued. -/
theorem test_instant_comes_due :
    dueCommands { State.reset with time := { State.reset.time with clock := 9999 } } = [] ∧
    dueCommands { State.reset with time := { State.reset.time with clock := 10000 } } = [.demandInstant false] := by
  decide

/-- R11: the reply is the one queued, and the record is held. -/
theorem test_add_target_joins :
    ((after (.addTarget .p0 3 (header 10000001 12000000 0 1) [wire 10000000]) ready).list.records.map (·.id)) = [401] := by
  decide

/-- R12 order 4: node times not strictly increasing. -/
theorem test_add_target_node_order :
    ((after (.addTarget .p0 3 (header 10000001 12000000 0 1) [wire 10000000, wire 10000000]) ready).link.p0.replies.map
      (·.code)) = [.nodeOrder] := by decide

/-- R45, R34: RUN with a candidate starts it, late when ST passes its start by more than P. -/
theorem test_run_starts_the_candidate :
    let t := after (.run .p0 0) waiting
    (t.ctrl.listState, t.ctrl.phase, t.ctrl.activeId, t.ctrl.serial, t.list.records.map (·.late)) =
      (.run, .approach, 401, 1, [false]) := by decide

/-- R47: STOP ends the active target ABORTED and hands a freeze. -/
theorem test_stop_aborts :
    let t := after (.stop .p0 0) (active .track)
    (t.ctrl.listState, t.ctrl.phase, t.traj.slot, t.list.log.map (·.outcome)) =
      (.stop, .none, some ⟨.freeze, 2⟩, [.aborted]) := by decide

/-- R61: the three corrections inside the window. -/
theorem test_pps_inside_the_window :
    let edge := fun clock => (after .ppsEdge { ready with time := { ready.time with clock := clock } }).time
    ((edge 10000100).clock, (edge 10000100).holdEnd, (edge 10000100).status) = (10000100, some 10000100, .locked) ∧
    ((edge 9999900).clock, (edge 9999900).lastOffset) = (10000000, some (-100)) := by decide

/-- R62: outside the window the clock stands and TIME_FAULT is raised. -/
theorem test_pps_outside_the_window :
    let t := after .ppsEdge { ready with time := { ready.time with clock := 10000101 } }
    (t.time.clock, t.time.status, t.notice.ports.p0.waiting) = (10000101, .free, [.timeFault]) := by decide

/-- R57, R63: a watch that an edge at 9,900,000 set to 11,000,000 expires at the step of the edge at 10,999,900; one set a
microsecond later does not. -/
theorem test_pps_step_passes_the_pulse_watch :
    let edge := fun watch =>
      after .ppsEdge { ready with time := { ready.time with clock := 10999900, pulseWatch := some watch } }
    (edge 11000000).notice.ports.p0.waiting = [.timeFault] ∧ (edge 11000001).notice.ports.p0.waiting = [] ∧
    (edge 11000000).time.pulseWatch = some 12100000 := by decide

/-- R95, R98: from rest with e above amax, the first step is amax. -/
theorem test_first_move_is_amax :
    stepRule 10 40 ⟨1000, 0⟩ = ⟨990, -10⟩ ∧ stepRule 10 40 ⟨7, -3⟩ = ⟨0, -7⟩ ∧ stepRule 10 40 ⟨0, 12⟩ = ⟨2, 2⟩ := by decide

/-- R143, R145: a limit line cuts the axis that selects it, and OTHER_CUT the next. -/
theorem test_cut_chain :
    let s := { ready with drive := ⟨{ onAxis with cutMask := 0x02 }, { onAxis with cutMask := 0x80 }, onAxis⟩ }
    ((after (.cutSourceRise .azLimit true) s).drive.map fun d => (d.state, d.lastCause)) =
      ⟨(.cut, some .azLimit), (.cut, some .otherCut), (.on, none)⟩ := by decide

/-- R154: the record opened on a full FIFO carries EARLIER_LOST. -/
theorem test_full_fifo_loses_the_oldest :
    let closed := fun n => (⟨n, 0, 0, .none, 0, .all 0, 0, false, false, 0, 0, some (0, 0)⟩ : CaptureRecord)
    let s := { ready with
      traj := { ready.traj with lastInstant := some 10000000 }
      capture := ⟨.low, some ⟨true, 9999900⟩, 0, (List.range 16).map closed, 17, none⟩ }
    let f := (after .shutterCandidateAccepted s).capture.fifo
    (f.length, f.head?.map (·.serial), f.getLast?.map (fun r => (r.serial, r.openTime, r.earlierLost))) =
      (16, some 1, some (17, 9999900, true)) := by decide

/-- R184: highest level first, then lowest number. -/
theorem test_notices_are_ordered :
    let n : Notices := ⟨(List.replicate 12 ⟨15, 1⟩).set 5 ⟨15, 3⟩, .all ⟨0, [.settled, .cutOff, .timeFault], true⟩⟩
    ((after (.readNotices .p1 0) { ready with notice := n }).link.p1.replies.map (·.data)) =
      [.notices [(.cutOff, 3), (.settled, 1), (.timeFault, 1)] 0] := by decide

/-- Worked sequence 7.8: the first demand frame after ENABLE_AXES from OFF has step 0. -/
theorem test_first_demand_after_release_has_step_0 :
    let off : State := { ready with drive := ready.drive.map fun d => { d with state := .off, lastActual := some 5000000 } }
    let released := after (.enableAxes .p0 1 7) off
    let t := after (.demandInstant false) { released with time := { released.time with clock := 10010000 } }
    t.traj.axes.map (fun x => (x.demand, x.demandStep)) = .all (5000000, 0) := by decide

/-- R81: EL released under STOW takes up the stow elevation, whatever its stop point was. -/
theorem test_release_under_stow_seeks_the_stow_elevation :
    let s : State := { ready with
      traj := { ready.traj with source := .stow, axes := ready.traj.axes.map fun x => { x with base := 777 } }
      drive := ready.drive.map fun d => { d with state := .off, lastActual := some 5000000 } }
    let t := after (.enableAxes .p0 1 7) s
    t.traj.axes.map (fun x => x.base) = ⟨5000000, 16200000, 5000000⟩ := by decide

/-- R93, R173: GUST moves between instants, and FORCE_GUST replies the level as it stands. -/
theorem test_gust_edge_shows_between_instants :
    let t := after (.forceGust .p0 1) (after (.demandInstant true) ready)
    t.link.p0.replies.map (·.data) = [.force true true] := by decide

/-- R20: two records of one expire time leave together, with consecutive entry serials. -/
theorem test_records_expire_together :
    let r := fun id serial => { waitingTarget with id := id, serial := serial, expire := 10000000 }
    let s : State := { inState .run ready with list := { ready.list with records := [r 1 1, r 2 2] } }
    let t := after (.recordExpiry 1) s
    (t.list.records, t.list.log.map (fun o => (o.serial, o.id, o.outcome))) =
      ([], [(1, 1, .expired), (2, 2, .expired)]) := by decide

/-- R175: the entry of POP_OFFSET is no repeated record, so LEN is 20. -/
theorem test_pop_offset_reply_is_20_words :
    (replyPayload false ⟨0x42, 1, .ok, .popped ⟨0, 0, 0, .all 0, false⟩ 0 (.all 0)⟩).length = 2 * 20 := by decide

/-- R190, R193: the image passes; a byte changed fails the sum at index 63. -/
theorem test_image_checks :
    passes (checkImage goodImage) = true ∧ checkImage (goodImage.set 63 0) = .fail 63 ∧
    parseImage goodImage = image := by decide +kernel

/-! ## Witnesses: for each statement with hypotheses, cases that meet them clause by clause -/

/-- Every kind of request is served at port 0 of the VALID part, with and without an active target. -/
theorem test_requests_are_served (k : RequestKind) (phase : Phase) :
    Served k .p0 ready ∧ Served k .p0 waiting ∧ Served k .p0 (active phase) := by
  cases k <;> cases phase <;> decide

/-- Port 0 with a READ_TIME carried out, its reply not yet sent. -/
def replying (s : State) : State :=
  s.modPort .p0 fun q => { q with buffers := [⟨⟨0x21, 9, []⟩, true⟩], replies := [⟨0x21, 9, .ok, .none⟩] }

/-- So is every kind while a reply is still to be sent. -/
theorem test_requests_are_served_behind_a_reply (k : RequestKind) : Served k .p0 (replying ready) := by
  cases k <;> decide

/-- Before VALID. -/
theorem test_unconfigured (p : Port) : Unconfigured p State.reset ∧ Unconfigured p (replying State.reset) := by
  cases p <;> decide

theorem test_witness_StepRunsTheFrontCommand :
    ({ ready with pending := [.stowRise, .ppsEdge] } : State).pending = .stowRise :: [.ppsEdge] := rfl

theorem test_witness_EmptyQueueQueuesWhatIsDueOrCounts :
    ((inReset ready).pending = [] ∧ (inReset ready).lines.reset = true) ∧
    (ready.pending = [] ∧ ready.lines.reset = false ∧ dueCommands ready = []) ∧
    dueCommands waiting = .startWatchExpiry 401 :: [] := by decide

theorem test_witness_ResetStartsAfreshAndHolds :
    (inReset ready).lines.reset = true ∧ Instr.ppsEdge ≠ .resetAssert ∧
    ∀ l, Instr.ppsEdge ≠ .powerOn l ∧ Instr.ppsEdge ≠ .resetFall l := by
  refine ⟨rfl, by decide, fun l => ⟨by simp, by simp⟩⟩

theorem test_witness_MemoryReadEndsInItsVerdict :
    let bytes := goodImage.flatMap bytes4
    let bad := (goodImage.set 63 0).flatMap bytes4
    (State.reset.lines.reset = false ∧ State.reset.loader.state = .loading ∧ State.reset.loader.reading = true) ∧
    (bytes.take 3).length < 4 ∧ (4 ≤ (bytes4 0x440A003F).length ∧ headerOk (wordAt (bytes4 0x440A003F) 0) = false) ∧
    (headerOk (wordAt bytes 0) = true ∧ imageLength (wordAt bytes 0) = 64 ∧ bytes.length = 4 * 64 ∧
      (bytes.take 255).length < 4 * 64 ∧ passes (checkImage (wordsAt bytes 0 64)) = true) ∧
    headerOk (wordAt bad 0) = true ∧ bad.length = 4 * 64 ∧ checkImage (wordsAt bad 0 64) = .fail 63 := by
  decide +kernel

/-- A part loading from port 0 that holds so many words of the image. -/
def loadingFrom (words : List Word) : State :=
  { State.reset with loader := { Loader.start true with
      words := words, nextIndex := words.length, length := if words = [] then none else some 64 } }

theorem test_witness_SiteWordsAreJudgedInOrder :
    let bad := goodImage.set 63 0
    (∀ n ∈ [0, 16, 48], Served .siteWords .p0 (loadingFrom (goodImage.take n)) ∧
      (loadingFrom (goodImage.take n)).loader.state = .loading ∧
      (loadingFrom (goodImage.take n)).loader.reading = false ∧
      (loadingFrom (goodImage.take n)).loader.nextIndex = n ∧ (loadingFrom (goodImage.take n)).loader.words.length = n) ∧
    (Served .siteWords .p0 ready ∧ ready.loader.state ≠ .loading ∧ ready.loader.state ≠ .configFault) ∧
    (0x31 : Half).toNat ≠ (loadingFrom (goodImage.take 48)).loader.nextIndex ∧
    (loadingFrom (goodImage.take 48)).loader.length = some 64 ∧ 64 < (49 : Half).toNat + 16 ∧
    (headerOk (wordOf [0x440A003F] 0) = false ∧ headerOk (wordOf goodImage 0) = true) ∧
    (16 + 16 < 64 ∧ 48 + 16 = 64) ∧ passes (checkImage (goodImage.take 48 ++ goodImage.drop 48)) = true ∧
    checkImage (bad.take 48 ++ bad.drop 48) = .fail 63 := by
  decide +kernel

theorem test_witness_EntryToValidPutsTheImageInForce :
    1 ≤ image.periodMs ∧ ready.time.clock < clockMax ∧ ({ ready.lines with stow := true } : Lines).stow = true := by decide

theorem test_witness_PassedImageIsWithinItsRanges :
    passes (checkImage goodImage) = true ∧ checkImage (goodImage.set 63 0) = .fail 63 ∧
    checkImage (((goodImage.set 1 51).set 63 (goodImage.getD 63 0 - 41))) = .fail 1 := by decide +kernel

theorem test_witness_RestartTakesTheRestartValues :
    (Served .restart .p0 ready ∧ (ready.drive.get .az).state ≠ .off ∧ (ready.drive.get .az).state ≠ .cut) ∧
    Served .restart .p0 (axesIn .cut ready) ∧
    (∀ a, ((axesIn .cut ready).drive.get a).state = .off ∨ ((axesIn .cut ready).drive.get a).state = .cut) ∧
    ready.lines.stow = false ∧ ({ ready.lines with stow := true } : Lines).stow = true :=
  ⟨by decide, by decide, fun a => by cases a <;> decide, rfl, rfl⟩

theorem test_witness_RequestFramesReadBack :
    (Instr.pushOffset .p3 1 2 0xFFFFFFFF 0).wellFormed = true ∧
    (Instr.pushOffset .p3 1 2 0xFFFFFFFF 0).request =
      some (.p3, ⟨0x42, 1, [0, 0, 0, 2, 0xFF, 0xFF, 0xFF, 0xFF, 0, 0, 0, 0]⟩) ∧
    decodeRequest .p1 ⟨0x04, 5, [63, 7]⟩ = some (.readList .p1 5 63) ∧
    (requestKindOf 0x04 = some .readList ∧ RequestKind.readList.lenOk (Frame.len ⟨0x04, 5, [63, 7]⟩) = true) := by decide

theorem test_witness_ReceiverAssemblesOrDiscards :
    let frames : List Frame := [⟨0x21, 7, []⟩, ⟨0x04, 8, [1, 0]⟩]
    let times := (List.range 14).map (· * 2000)
    ((∀ f ∈ frames, f.payload.length % 2 = 0 ∧ f.len ≤ requestLenMax) ∧
      times.length = (frames.flatMap frameBytes).length ∧ noGaps times) ∧
    (2000 - 0 ≤ 2000 ∧ 96 < (97 : Byte).toNat) ∧ ((Receiver.readingLen 0).last? = some 0 ∧ 2000 < 2001 - 0) ∧
    (([0x21, 7, 0x89] : List Byte).length + 1 = 4 + 2 * 0 ∧
      crc16 (BitVec.ofNat 8 0 :: (([0x21, 7, 0x89] : List Byte) ++ [0xAD]).take (2 + 2 * 0)) ≠
        byteAt ([0x21, 7, 0x89] ++ [0xAD]) (2 + 2 * 0) ++ byteAt ([0x21, 7, 0x89] ++ [0xAD]) (3 + 2 * 0)) := by
  refine ⟨⟨by decide, by decide +kernel, ?_⟩, by decide +kernel⟩
  simp [List.range, List.range.loop, noGaps, gapLimit]

/-- A port whose receiver waits for the last character of a frame without payload. -/
def lastCharacter (got : List Byte) (buffers : List Held) : State :=
  ready.modPort .p0 fun q => { q with receiver := .assembling 0 got 9999000, buffers := buffers }

theorem test_witness_LinkCharacterHandsFramesOn :
    let carried : List Held := List.replicate 2 ⟨⟨0x21, 1, []⟩, true⟩
    let frameOf := fun s : State => (receive s.time.elapsed 0xAC (s.link.get .p0).receiver).frame
    (receive ready.time.elapsed 0xC3 (ready.link.get .p0).receiver).frame = none ∧
    (frameOf (lastCharacter [0x21, 7, 0x89] carried) = some ⟨0x21, 7, []⟩ ∧ carried.length = 2 ∧
      oldestWaiting carried = none) ∧
    (oldestWaiting [⟨⟨0x21, 1, []⟩, false⟩] = some ⟨0x21, 1, []⟩ ∧
      oldestWaiting [⟨⟨0x21, 9, []⟩, true⟩, ⟨⟨0x21, 1, []⟩, false⟩] = some ⟨0x21, 1, []⟩ ∧
      judgeRequest (lastCharacter [0x21, 7, 0x89] [⟨⟨0x21, 1, []⟩, false⟩]) .p0 ⟨0x21, 1, []⟩ = none) ∧
    (Takes ((lastCharacter [0x21, 7, 0x89] []).link.get .p0) ∧ requestKindOf 0x99 = none ∧
      requestKindOf 0x21 = some .readTime ∧ RequestKind.readTime.lenOk 1 = false ∧
      RequestKind.readTime.lenOk 0 = true ∧ needsRight .readTime = false ∧
      mayRequest ((lastCharacter [0x21, 7, 0x89] []).link.get .p0).rights .p0 .readTime = true) ∧
    let run : List Byte := frameBytes ⟨0x10, 7, []⟩
    let s := lastCharacter ((run.drop 2).dropLast) []
    let bare := s.modPort .p0 fun q => { q with rights := .observe }
    ((receive s.time.elapsed (run.getLastD 0) (s.link.get .p0).receiver).frame = some ⟨0x10, 7, []⟩ ∧
      requestKindOf 0x10 = some .run ∧ RequestKind.run.lenOk 0 = true ∧ needsRight .run = true) ∧
    (Takes (s.link.get .p0) ∧ { s with loader := State.reset.loader }.isValid = false) ∧
    (Takes (bare.link.get .p0) ∧ bare.isValid = true ∧ mayRequest (bare.link.get .p0).rights .p0 .run = false) := by
  decide +kernel

theorem test_witness_PortEventsActOnTheirPortAlone :
    let r : Reply := ⟨0x21, 1, .ok, .none⟩
    let one := ready.modPort .p0 fun q => { q with replies := [r] }
    let two := ready.modPort .p0 fun q => { q with replies := [r, r] }
    let late := ready.modPort .p0 fun q => { q with receiver := .readingLen 9997999 }
    ((late.link.get .p0).receiver.last? = some 9997999 ∧ 2000 < late.time.elapsed - 9997999) ∧
    (one.link.get .p0).replies = [r] ∧ (two.link.get .p0).replies = r :: r :: [] ∧
    (ready.isValid = true ∧ (ready.link.get .p0).receiver = .hunting ∧ (ready.link.get .p0).replies = []) := by
  decide

theorem test_witness_LinkRefusesWithoutConfigurationOrRight :
    let i := Instr.run .p1 4
    let f : Frame := ⟨0x10, 4, []⟩
    let none' := ready.modPort .p1 fun q => { q with rights := .observe }
    (i.wellFormed = true ∧ i.request = some (.p1, f) ∧ requestKindOf f.kind = some .run ∧ needsRight .run = true) ∧
    (State.reset.lines.reset = false ∧ Takes (State.reset.link.get .p1) ∧ State.reset.isValid = false) ∧
    (none'.lines.reset = false ∧ Takes (none'.link.get .p1) ∧ none'.isValid = true ∧
      mayRequest (none'.link.get .p1).rights .p1 .run = false) := by decide

theorem test_witness_PortHoldsTwoUnansweredRequests :
    let i := Instr.run .p0 4
    let f : Frame := ⟨0x10, 4, []⟩
    let g : Frame := ⟨0x21, 1, []⟩
    let one := ready.modPort .p0 fun q => { q with buffers := [⟨g, false⟩] }
    let two := ready.modPort .p0 fun q => { q with buffers := [⟨g, true⟩, ⟨g, false⟩] }
    let done := ready.modPort .p0 fun q => { q with buffers := [⟨g, true⟩, ⟨g, true⟩] }
    (oldestWaiting (done.link.get .p0).buffers = none ∧ (done.link.get .p0).buffers.length = 2) ∧
    (i.wellFormed = true ∧ i.request = some (.p0, f) ∧ sameRequest .p0 g f = false) ∧
    (Takes ((replying ready).link.get .p0) ∧ Takes (ready.link.get .p0)) ∧
    (one.lines.reset = false ∧ oldestWaiting (one.link.get .p0).buffers = some g ∧
      (one.link.get .p0).buffers.length = 1) ∧
    (oldestWaiting (two.link.get .p0).buffers = some g ∧ (two.link.get .p0).buffers.length = 2) := by decide

theorem test_witness_ReplyBytesLieInTheirPlaces :
    let entry : OutcomeEntry := ⟨1, 401, .done, some 5, 6, 7, 8, true⟩
    let record : CaptureRecord := ⟨1, 0, 0, .none, 0, .all 0, 0, false, false, 0, 0, some (1, 1)⟩
    (pointingView ready).slot = none ∧ (pointingView (after (.stop .p0 0) (active .track))).slot = some ⟨.freeze, 2⟩ ∧
    ([record][0]? = some record ∧ [entry][0]? = some entry ∧ [(0, waitingTarget)][0]? = some (0, waitingTarget)) ∧
    (⟨0x80, 1, .ok, .captures 0 none .low [record]⟩ : Reply).data = .captures 0 none .low [record] ∧
    (⟨0x05, 1, .ok, .outcomes 1 1 false [entry]⟩ : Reply).data = .outcomes 1 1 false [entry] := by decide

/-! ### The list store -/

/-- A list of one sound record. -/
theorem test_one_record_is_sound (r : TargetRecord) (h : RecordSound r) (s : State) (hs : s.list = ListStore.reset) :
    ListSound (withRecord r s).list := by
  have hc : r.nodes.length ≤ 16 := h.count.2
  refine ⟨?_, ?_, ?_, ?_, ?_, ?_, ?_, ?_, ?_, ?_⟩ <;>
    simp_all [withRecord, ListStore.reset, nodesHeld, listCapacity, poolCapacity, logCapacity]
  omega

/-- The hypotheses of an addition, for a header with `options` 1, one node at 300 s from the start time. -/
theorem test_witness_AddTargetJoinsTheList :
    let accepted := fun (h : WireHeader) (nodes : List TrackNode) (s : State) =>
      s.time.status ≠ .unset ∧ h.id.toNat ≠ 0 ∧ h.dwell.toNat ≤ 3600000 ∧ wrapOf? h.wrap = some .high ∧
      optionsOf? h.options = some ⟨true, true, true⟩ ∧ nodes.all (nodeInRange s.image) = true ∧
      h.start.toNat < h.expire.toNat ∧ s.time.clock < h.expire.toNat ∧ firstTime nodes ≤ h.start.toNat + 300000000 ∧
      h.expire.toNat ≤ finalTime nodes + 300000000 ∧ inOrder nodes = true ∧
      (∀ r ∈ s.list.records, r.id ≠ h.id.toNat) ∧ s.list.records.length < 64 ∧ nodes.length ≤ freeCount s.list
    Served .addTarget .p0 ready ∧
    accepted (header 10000001 12000000 2 7) ([wire 310000001].map nodeOf) ready ∧
    (accepted (header 10000000 310000000 2 7) ([wire 10000000].map nodeOf) ready ∧ 10000000 ≤ ready.time.clock) := by
  decide

theorem test_witness_AddTargetRefusesInOrder :
    let unset : State := { ready with time := { ready.time with status := .unset } }
    let full : State := { ready with list := { ready.list with
      records := (List.range 64).map fun i => { waitingTarget with id := 500 + i } } }
    let drained : State := { ready with list := { ready.list with
      records := (List.range 32).map fun i =>
        { waitingTarget with id := 500 + i, nodes := List.replicate 16 ⟨0, .all 0, .all 0⟩ } } }
    let nodes := [wire 10000000].map nodeOf
    (Served .addTarget .p0 unset ∧ unset.time.status = .unset) ∧
    (ready.time.status ≠ .unset ∧ (header 0 1 0 8).options.toNat = 8 ∧ (header 0 1 3 0).wrap.toNat = 3) ∧
    (nodes.all (nodeInRange image) = true ∧ inOrder (nodes ++ nodes) = false ∧ inOrder nodes = true) ∧
    (∃ r ∈ waiting.list.records, r.id = (header 0 1 0 0).id.toNat) ∧
    (Served .addTarget .p0 full ∧ (∀ r ∈ full.list.records, r.id ≠ 401) ∧ 64 ≤ full.list.records.length) ∧
    (Served .addTarget .p0 drained ∧ (∀ r ∈ drained.list.records, r.id ≠ 401) ∧
      drained.list.records.length < 64 ∧ freeCount drained.list < nodes.length) := by decide +kernel

theorem test_witness_AppendNodesAddsAfterTheLastNode :
    let long := fun n => withRecord { waitingTarget with nodes := List.replicate n ⟨9990000, .all 0, .all 0⟩ } ready
    let node := nodeOf (wire 9990001)
    (Served .appendNodes .p0 waiting ∧ nodeInRange waiting.image (nodeOf { wire 0 with az := 129600000 }) = false) ∧
    ([node].all (nodeInRange waiting.image) = true ∧ (∀ r ∈ ready.list.records, r.id ≠ 401)) ∧
    (findRecord 401 waiting.list.records = some waitingTarget ∧ inOrderFrom 9990000 [node] = true ∧
      inOrderFrom 9990000 [nodeOf (wire 9990000)] = false ∧ inOrderFrom 9990000 [nodeOf (wire 309990000)] = true ∧
      inOrderFrom 9990000 [nodeOf (wire 309990001)] = false) ∧
    (Served .appendNodes .p0 (long 16) ∧ (findRecord 401 (long 16).list.records).map (·.nodes.length) = some 16 ∧
      16 < 16 + 1 ∧ ¬16 < 15 + 1 ∧ 1 ≤ freeCount (long 15).list) := by decide +kernel

theorem test_witness_DeleteTargetRemovesAWaitingRecord :
    (Served .deleteTarget .p0 waiting ∧ (∀ r ∈ waiting.list.records, r.id ≠ (402 : Half).toNat)) ∧
    (findRecord (401 : Half).toNat waiting.list.records = some waitingTarget ∧ waitingTarget.status = .waiting) ∧
    ((findRecord (401 : Half).toNat (active .settle).list.records).map (·.status) = some .active) := by decide

theorem test_witness_RecordExpiryLogsAndRemoves :
    let r := { waitingTarget with expire := 10000000 }
    let s := withRecord r ready
    (s.lines.reset = false ∧ findRecord (401 : Half).toNat s.list.records = some r ∧ r.status = .waiting ∧
      r.expire ≤ s.time.clock) ∧ ListSound s.list :=
  ⟨by decide, test_one_record_is_sound _ ⟨by decide, by decide, by decide, by decide⟩ _ rfl⟩

theorem test_witness_ListReadsAnswerWhatIsHeld :
    Served .readList .p0 waiting ∧ 63 < (64 : Byte).toNat ∧ (63 : Byte).toNat ≤ 63 ∧ Served .readOutcomes .p0 waiting := by
  decide

/-! ### The target controller -/

theorem test_witness_RunEntersRunFromStopOrHold :
    let unset : State := { ready with time := { ready.time with status := .unset } }
    let pending : State := { ready with time := { ready.time with pendingSet := some 11000000 } }
    (Served .run .p0 (inState .stow ready) ∧ Served .run .p0 (inState .run ready) ∧ Served .run .p0 pending ∧
      Served .run .p0 unset ∧ Served .run .p0 (axesIn .releasing ready) ∧ Served .run .p0 (inState .hold ready)) ∧
    (ready.ctrl.listState = .stop ∧ ready.time.pendingSet = none ∧ ready.time.status ≠ .unset ∧ candidate ready = none) ∧
    (pending.time.pendingSet ≠ none ∧ unset.time.status = .unset) ∧
    ((axesIn .releasing ready).drive.get .el).state ≠ .on ∧ ∀ a, (ready.drive.get a).state = .on :=
  ⟨by decide, by decide, by decide, by decide, fun a => by cases a <;> rfl⟩

theorem test_witness_HoldAndStopMoveTheListState :
    (∀ l ∈ [ListState.stop, .run, .hold, .stow],
      Served .hold .p0 (inState l ready) ∧ Served .stop .p0 (inState l ready) ∧
      (inState l ready).ctrl.listState = l) ∧
    (inState .run ready).ctrl.phase = .none ∧ (active .track).ctrl.listState = .run ∧
    (active .track).ctrl.phase ≠ .none ∧ Served .stop .p0 (active .track) := by decide

theorem test_witness_AbortAndReleaseEndTheNamedTarget :
    let held := inState .hold (active .track)
    (Served .abort .p0 ready ∧ ready.ctrl.phase = .none) ∧
    (Served .abort .p0 (active .settle) ∧ (active .settle).ctrl.phase = .settle ∧
      (402 : Half).toNat ≠ (active .settle).ctrl.activeId ∧ (401 : Half).toNat = (active .settle).ctrl.activeId) ∧
    (Served .release .p0 held ∧ held.ctrl.phase = .track ∧ (0 : Half).toNat = 0 ∧ held.ctrl.listState = .hold) ∧
    (Served .release .p0 (active .track) ∧ (active .track).ctrl.listState = .run) := by
  decide

theorem test_witness_StartCheckStartsTheCandidate :
    let s := inState .run waiting
    let narrow : State := { s with loader := { s.loader with state := .valid { image with azLow := 1, azHigh := 2 } } }
    (s.ctrl.listState = .run ∧ candidate s = some waitingTarget ∧ s.ctrl.phase = .none ∧
      wrapChoice s.image s.time.clock s.traj.axes.az.demand waitingTarget.wrap waitingTarget.nodes = some 0) ∧
    (∀ a, (s.drive.get a).state = .on) ∧ waiting.ctrl.listState ≠ .run ∧ candidate (inState .run ready) = none ∧
    (candidate narrow = some waitingTarget ∧
      wrapChoice narrow.image narrow.time.clock 0 waitingTarget.wrap waitingTarget.nodes = none) ∧
    ListSound narrow.list :=
  ⟨by decide, fun a => by cases a <;> rfl, by decide, by decide, by decide,
    test_one_record_is_sound _ ⟨by decide, by decide, by decide, by decide⟩ ready rfl⟩

theorem test_witness_WrapChoiceIsFeasibleAndPreferred :
    let nodes := [(⟨0, ⟨36000000, 0, 0⟩, ⟨0, 0, 0⟩⟩ : TrackNode)]
    rawAzimuth 0 nodes = some (36000000, 36000000) ∧ wrapChoice image 0 (-80000000) .nearest nodes = some (-129600000) ∧
    wrapChoice { image with azLow := 40000000 } 0 0 .low nodes = none := by decide

theorem test_witness_EndingLogsRemovesAndClears :
    let held := inState .hold (active .track)
    (held.ctrl.phase ≠ .none ∧ (activeRecord held.ctrl.activeId held.list.records).isSome = true ∧
      held.ctrl.listState = .hold) ∧
    ((active .track).ctrl.listState = .run ∧ (inState .stop (active .track)).ctrl.listState = .stop) ∧
    OutcomeKind.done ≠ .limit ∧ OutcomeKind.done ≠ .runOut ∧ OutcomeKind.done ≠ .preempted := by decide

theorem test_witness_TargetTimersActWhenTheyExpire :
    ((⟨401, 9995000, false⟩ : StartWatch) ∈ waiting.ctrl.watches ∧ 9995000 ≤ waiting.time.clock) ∧
    (active .settle).lines.reset = false ∧
    ((active .settle).ctrl.settleHold = some 10000000 ∧ (active .settle).ctrl.settleTimeout = some 10000000 ∧
      (active .settle).ctrl.dwellTimer = some 10000000 ∧ 10000000 ≤ (active .settle).time.clock ∧
      (active .settle).ctrl.phase = .settle ∧ (active .settle).ctrl.firstTrackReached = false) ∧
    ((active .approach).ctrl.settleTimeout = some 10000000 ∧ (active .approach).ctrl.phase = .approach) ∧
    ((active .track).ctrl.dwellTimer = some 10000000 ∧ (active .track).ctrl.phase = .track) := by decide

theorem test_witness_StowAndDomeReadyAct :
    let high : State := { ready with lines := { ready.lines with stow := true } }
    let near := { active .settle with ctrl := { (active .settle).ctrl with
      settleHold := none, lastError := .all (some 1000) } }
    (ready.lines.reset = false ∧ ready.lines.stow = false ∧ ready.isValid = true) ∧
    (high.lines.stow = true ∧ (inState .stow high).ctrl.listState = .stow ∧ high.ctrl.listState ≠ .stow) ∧
    State.reset.isValid = false ∧
    (near.lines.domeReady = false ∧ near.ctrl.phase = .settle ∧ near.ctrl.options.domeWait = true ∧
      near.ctrl.settleHold = none ∧ 0 < near.image.settleHoldMs) ∧
    (∀ a, ∃ x, near.ctrl.lastError.get a = some x ∧ x.natAbs ≤ near.image.tolerance.get a) ∧
    ready.ctrl.phase ≠ .settle :=
  ⟨by decide, by decide, rfl, by decide, fun a => ⟨1000, by cases a <;> decide⟩, by decide⟩

theorem test_witness_ImageListStateAndClockMoveOnlyAtTheirEvents :
    let s : State := { ready with pending := [.ppsEdge], time := { ready.time with pendingSet := some 1000000 } }
    (ready.loader.state = .valid image ∧ Instr.ppsEdge ≠ .resetAssert ∧
      (∀ l, Instr.ppsEdge ≠ .powerOn l ∧ Instr.ppsEdge ≠ .resetFall l) ∧ ∃ t, exec .ppsEdge ready = .next t) ∧
    (∃ t, exec .stowRise ready = .next t ∧ t.ctrl.listState ≠ ready.ctrl.listState) ∧
    ∃ t, step s = .next t ∧ t.time.clock < s.time.clock :=
  ⟨⟨rfl, by decide, fun l => ⟨by simp, by simp⟩, _, rfl⟩, ⟨after .stowRise ready, rfl, by decide⟩,
    ⟨after .ppsEdge { ready with time := { ready.time with pendingSet := some 1000000 } }, rfl, by decide⟩⟩

/-! ### The time base -/

theorem test_witness_SetTimeAndTimeBaseExpiries :
    let due : State := { ready with time := { ready.time with
      status := .locked, holdEnd := some 10000000, pulseWatch := some 10000000 } }
    let largest := fun timer =>
      ({ ready with time := { ready.time with clock := 281474976710655, nextInstant := timer } } : State)
    (Served .setTime .p0 ready ∧ ready.ctrl.listState = .stop) ∧
    ((10000001 : SiteTimeWord).toNat % 1000000 ≠ 0 ∧ 281474976000000 < (281474976710655 : SiteTimeWord).toNat) ∧
    ((281474976000000 : SiteTimeWord).toNat % 1000000 = 0 ∧
      ¬281474976000000 < (281474976000000 : SiteTimeWord).toNat) ∧
    (Served .setTime .p0 (inState .hold ready) ∧ (inState .hold ready).ctrl.listState ≠ .stop) ∧
    (due.time.holdEnd = some 10000000 ∧ 10000000 ≤ due.time.elapsed ∧ due.time.pulseWatch = some 10000000 ∧
      10000000 ≤ due.time.clock) ∧
    ∀ timer ∈ [DemandTimer.atSiteTime 281474976710656, .atElapsed 10000000],
      (largest timer).time.clock = 281474976710655 ∧ (largest timer).time.largestReported = false ∧
      (largest timer).time.nextInstant = timer := by decide

theorem test_witness_PpsEdgeDisciplinesOrSetsTheClock :
    let at' := fun clock => ({ ready with time := { ready.time with clock := clock } } : State)
    let set' : State := { ready with time := { ready.time with pendingSet := some 11000000 } }
    (State.reset.time.pendingSet = none ∧ State.reset.time.status = .unset) ∧
    (ready.time.pendingSet = none ∧ ready.time.status ≠ .unset ∧ ready.lines.reset = false) ∧
    ((at' 10000000).time.clock % 1000000 = 0 ∧ (at' 10000001).time.clock % 1000000 = 1 ∧
      (at' 10000100).time.clock % 1000000 = 100 ∧ (at' 10000101).time.clock % 1000000 = 101 ∧
      (at' 10999899).time.clock % 1000000 = 999899 ∧ (at' 10999900).time.clock % 1000000 = 999900) ∧
    (∃ x, ({ (at' 10999900).time with pulseWatch := some 11000000 } : TimeBase).pulseWatch = some x ∧
      x ≤ 10999900 + (1000000 - 999900)) ∧ (at' 10999900).time.pulseWatch = none ∧
    (set'.time.pendingSet = some 11000000 ∧ (∀ r ∈ set'.list.records, r.status = .waiting → 11000000 < r.expire) ∧
      (∀ w ∈ set'.ctrl.watches, w.expired = true ∨ 11000000 < w.start) ∧ set'.time.clock < 11000000) ∧
    ListSound set'.list :=
  ⟨by decide, by decide, by decide, ⟨11000000, rfl, by decide⟩, rfl, by decide,
    ⟨by simp [ready, State.reset, State.fresh, ListStore.reset], by decide, by decide, by decide, by decide, by decide,
      by decide, by decide, by decide, by decide⟩⟩

/-! ### The trajectory unit -/

/-- A demand instant is due, at 10.01 s. -/
def atInstant (s : State) : State := { s with time := { s.time with clock := 10010000 } }

/-- A target active in a phase, with a node due and one later, and the source that was handed for it in the slot or in force. -/
def tracking (source : Source) (slot : Option HandOver) : State :=
  let s := atInstant (active .approach)
  let node := fun time az => (⟨time, ⟨az, 20000000, 0⟩, ⟨0, 0, 0⟩⟩ : TrackNode)
  { s with
    list := { s.list with records := s.list.records.map fun r =>
      { r with nodes := [node 9990000 0, node 10005000 1000, node 10500000 2000] } }
    traj := { s.traj with source := source, slot := slot } }

def trackFrom (time last : Nat) : Source := .track ⟨401, ⟨time, ⟨0, 20000000, 0⟩, ⟨0, 0, 0⟩⟩, 0, last⟩

/-- The bases of a track at an azimuth. -/
def basesAt (az : Int) : PerAxis TrajectoryAxis :=
  ⟨{ TrajectoryAxis.reset with base := az }, { TrajectoryAxis.reset with base := 20000000 }, TrajectoryAxis.reset⟩

theorem test_tracking_list_is_sound (source : Source) (slot : Option HandOver) :
    ListSound (tracking source slot).list :=
  test_one_record_is_sound _ ⟨by decide, by decide, by decide, by decide⟩ ready rfl

theorem test_instant_is_due (s : State) (h : s = atInstant ready ∨ ∃ x y, s = tracking x y) : InstantDue s := by
  rcases h with rfl | ⟨x, y, rfl⟩ <;> exact ⟨rfl, rfl, fun a => by cases a <;> rfl⟩

theorem test_witness_DemandInstantMovesAxesWithinTheLimits :
    let s := atInstant ready
    (ready.lines.reset = false ∧ ready.instantDue = false) ∧
    (InstantDue s ∧ s.traj.source = .freeze ∧ s.traj.slot = none ∧ s.traj.arrivalSet = false) ∧
    (∀ a, (s.drive.get a).state ≠ .stopping .braking) ∧
    ∃ t, exec (.demandInstant true) (tracking (trackFrom 9990000 0) none) = .next t ∧
      t.traj.source = .track ⟨401, ⟨10005000, ⟨1000, 20000000, 0⟩, ⟨0, 0, 0⟩⟩, 1000, 10500000⟩ :=
  ⟨by decide, ⟨test_instant_is_due _ (.inl rfl), by decide⟩, fun a => by cases a <;> decide, _, rfl, by decide⟩

theorem test_witness_DemandInstantAdoptsWhatTheSlotHolds :
    let handed := fun c => tracking .freeze (some ⟨c, 1⟩)
    let s := handed (.newTrack 401 0)
    let r := { waitingTarget with
      status := .active, actualStart := some 9995000
      nodes := [⟨9990000, ⟨0, 20000000, 0⟩, ⟨0, 0, 0⟩⟩, ⟨10005000, ⟨1000, 20000000, 0⟩, ⟨0, 0, 0⟩⟩,
        ⟨10500000, ⟨2000, 20000000, 0⟩, ⟨0, 0, 0⟩⟩] }
    (∀ c, InstantDue (handed c) ∧ (handed c).traj.slot = some ⟨c, 1⟩) ∧
    (s.list.records = [r] ∧ (∀ q ∈ s.list.records, q.id = 402 → q.status ≠ .active) ∧ ListSound s.list) ∧
    (instantTime s.time ≤ finalTime r.nodes + 300000000 ∧
      dueNodes (instantTime s.time) r.nodes.tail = [⟨10005000, ⟨1000, 20000000, 0⟩, ⟨0, 0, 0⟩⟩]) ∧
    ¬Outside s.image (basesAt 1000) :=
  ⟨fun c => ⟨test_instant_is_due _ (.inr ⟨_, _, rfl⟩), rfl⟩, ⟨by decide, by decide, test_tracking_list_is_sound _ _⟩,
    by decide, by unfold Outside; decide⟩

theorem test_witness_DemandInstantSwitchesNodes :
    let s := tracking (trackFrom 9990000 10500000) none
    let gone : State := { s with list := { s.list with records := [] } }
    (InstantDue s ∧ s.traj.source = trackFrom 9990000 10500000 ∧ s.traj.slot = none ∧ ListSound s.list) ∧
    (s.list.records.map (·.status) = [.active] ∧
      s.list.records.map (fun r => (dueNodes (instantTime s.time) r.nodes.tail).length) = [1]) ∧
    ((∀ r ∈ gone.list.records, r.id = 401 → r.status ≠ .active) ∧ gone.traj.slot = none ∧
      instantTime gone.time ≤ 10500000 + 300000000) ∧
    (¬Outside s.image (basesAt 1000) ∧ ¬Outside gone.image (basesAt 0)) :=
  ⟨⟨test_instant_is_due _ (.inr ⟨_, _, rfl⟩), rfl, rfl, test_tracking_list_is_sound _ _⟩, by decide, by decide,
    by unfold Outside; decide⟩

theorem test_witness_DemandInstantCountsSilence :
    let silent := fun count mask =>
      let s := atInstant ready
      let d := { onAxis with openFrame := some ⟨1, true, 0, 10000000⟩, silence := count, cutMask := mask }
      ({ s with drive := s.drive.set .el d } : State)
    let s := silent 2 0x10
    let lost := fun (s : State) a =>
      (s.drive.get a).openFrame.isSome = true ∧ (s.drive.get a).silence = 2 ∧ (s.drive.get a).state.canCut = true ∧
      (s.drive.get a).cutMask.getLsbD 4 = true
    (s.lines.reset = false ∧ s.instantDue = true ∧ s.traj.source = .freeze ∧ s.traj.slot = none ∧
      s.traj.arrivalSet = false) ∧
    (∀ a, (s.drive.get a).state ≠ .stopping .braking) ∧ lost s .el ∧ (∀ b, b ≠ .el → (s.drive.get b).openFrame = none) ∧
    (∀ a, ¬lost (silent 0 0) a) ∧ (((silent 0 0).drive.get .el).openFrame.isSome = true ∧
      ((silent 0 0).drive.get .el).silence = 0 ∧ ((silent 2 0).drive.get .el).silence ≠ 0) ∧
    ((inState .hold s).ctrl.listState = .hold ∧ s.ctrl.listState = .stop ∧ s.ctrl.phase = .none) :=
  ⟨by decide, fun a => by cases a <;> decide, by decide, fun b => by cases b <;> decide,
    fun a => by cases a <;> decide, by decide, by decide⟩

/-- A target whose only node is at an elevation, at an instant, with a source and a slot. -/
def lastNode (el : Int) (clock : Nat) (source : Source) (slot : Option HandOver) : State :=
  let s := tracking source slot
  { s with
    list := { s.list with records := s.list.records.map fun r =>
      { r with nodes := [⟨9990000, ⟨0, el, 0⟩, ⟨0, 0, 0⟩⟩] } }
    time := { s.time with clock := clock, nextInstant := .atSiteTime clock } }

/-- The latest hand-over is the one adopted, the watch is set, the axes rest on the node at an elevation of 20,000,000, and the
target has these last errors under this hold time. -/
def arriving (error : Option Int) (holdMs : Nat) (s : State) : State :=
  { s with
    loader := { s.loader with state := .valid { image with settleHoldMs := holdMs } }
    traj := { s.traj with
      adoptedSerial := 1, arrivalSet := true
      axes := PerAxis.build fun a =>
        { TrajectoryAxis.reset with demand := if a = .el then 20000000 else 0, base := if a = .el then 20000000 else 0 } }
    ctrl := { s.ctrl with lastError := .all error, options := .none } }

theorem test_witness_InstantReportsEndingsRestAndArrival :
    let source := fun el => Source.track ⟨401, ⟨9990000, ⟨0, el, 0⟩, ⟨0, 0, 0⟩⟩, 0, 9990000⟩
    let handed := some (⟨.newTrack 401 0, 1⟩ : HandOver)
    let braking := axesIn (.stopping .braking) (atInstant ready)
    (∀ el clock, ∀ x ∈ [(source el, none), (.freeze, handed)],
      let s := lastNode el clock x.1 x.2
      InstantDue s ∧ s.traj.source = x.1 ∧ s.traj.slot = x.2 ∧ ListSound s.list ∧
      s.list.records.map (·.status) = [.active] ∧
      s.list.records.map (·.nodes) = [[⟨9990000, ⟨0, el, 0⟩, ⟨0, 0, 0⟩⟩]] ∧ instantTime s.time = clock) ∧
    (9990000 + 300000000 < 310000000 ∧ 10010000 ≤ 9990000 + 300000000 ∧ finalTime [⟨9990000, .all 0, .all 0⟩] = 9990000) ∧
    (let s := lastNode 40000000 10010000 .freeze handed
      let c : TrackContext := ⟨401, ⟨9990000, ⟨0, 40000000, 0⟩, ⟨0, 0, 0⟩⟩, 0, 9990000⟩
      Outside s.image (followedAxes 10010000 c c s) ∧ Outside s.image (joinedAxes 10010000 c s)) ∧
    (InstantDue braking ∧ braking.traj.source = .freeze ∧ braking.traj.slot = none ∧ braking.traj.arrivalSet = false) ∧
    ∀ error ∈ [none, some 1000], ∀ hold ∈ [0, 500], ∀ x ∈ [(Source.freeze, none), (source 20000000, none), (.freeze, handed)],
      let s := arriving error hold (lastNode 20000000 10010000 x.1 x.2)
      let c : TrackContext := ⟨401, ⟨9990000, ⟨0, 20000000, 0⟩, ⟨0, 0, 0⟩⟩, 0, 9990000⟩
      InstantDue s ∧ (s.traj.arrivalSet = true ∧ s.traj.adoptedSerial = s.ctrl.serial) ∧ s.ctrl.phase = .approach ∧
      s.ctrl.settleHold = none ∧ s.image.settleHoldMs = hold ∧ (Near s ↔ error = some 1000) ∧
      ¬Outside s.image (followedAxes 10010000 c c s) ∧ ¬Outside s.image (joinedAxes 10010000 c s) ∧
      ∀ a, Rests (afterInstant false s.list s.traj s) a ∧
        Rests (afterInstant false s.list { s.traj with axes := followedAxes 10010000 c c s } s) a ∧
        Rests (afterInstant false s.list { s.traj with axes := joinedAxes 10010000 c s } s) a := by
  refine ⟨fun el clock x hx => ?_, by decide, ⟨by unfold Outside; decide, by unfold Outside; decide⟩,
    ⟨⟨rfl, rfl, fun a => by cases a <;> rfl⟩, by decide⟩, fun error he hold hh x hx => ?_⟩
  · have hs : ∀ y z, ListSound (lastNode el clock y z).list := fun _ _ =>
      test_one_record_is_sound _ ⟨by simp [waitingTarget], by simp [recordCapacity], rfl, by simp⟩ ready rfl
    simp only [List.mem_cons, List.not_mem_nil, or_false] at hx
    rcases hx with rfl | rfl <;>
      exact ⟨⟨rfl, by simp [State.instantDue, DemandTimer.due, lastNode], fun a => by cases a <;> rfl⟩, rfl, rfl, hs _ _, rfl,
        rfl, rfl⟩
  · simp only [List.mem_cons, List.not_mem_nil, or_false] at he hh hx
    have far : ∀ h s, ¬Near (arriving none h s) := fun h s near => by obtain ⟨x, hx, -⟩ := near.1 .az; cases hx
    have close : ∀ h s, Near (arriving (some 1000) h s) := fun h s =>
      ⟨fun a => ⟨1000, by cases a <;> rfl, by cases a <;> exact (by decide : 1000 ≤ 1000)⟩, fun h => by cases h⟩
    have near : ∀ s, Near (arriving error hold s) ↔ error = some 1000 := by
      rcases he with rfl | rfl <;> simp [far, close]
    rcases he with rfl | rfl <;> rcases hh with rfl | rfl <;> rcases hx with rfl | rfl | rfl <;>
      exact ⟨⟨rfl, by decide, fun a => by cases a <;> rfl⟩, by decide, rfl, rfl, rfl, near _, by unfold Outside; decide,
        by unfold Outside; decide, fun a => by cases a <;> decide⟩

theorem test_witness_PointingRequestsPredictAndLatch :
    let seen : State := { ready with traj := { ready.traj with lastInstant := some 10000000 } }
    let tracked : State := { seen with traj := { seen.traj with source := .track ⟨401, ⟨0, .all 0, .all 0⟩, 0, 0⟩ } }
    (Served .readPredict .p0 ready ∧ Served .forceGust .p0 ready ∧ Served .clearForce .p0 ready) ∧
    (10000 < (10001 : Half).toNat ∧ (10000 : Half).toNat ≤ 10000) ∧ ready.traj.lastInstant = none ∧
    (Served .readPredict .p0 seen ∧ seen.traj.lastInstant = some 10000000 ∧ seen.traj.source = .freeze) ∧
    (Served .readPredict .p0 tracked ∧ tracked.traj.source = .track ⟨401, ⟨0, .all 0, .all 0⟩, 0, 0⟩ ∧
      ∀ q ∈ tracked.list.records, q.id = 401 → q.status ≠ .active) ∧
    let s := tracking (trackFrom 9990000 10500000) none
    let ahead : State := { s with traj := { s.traj with lastInstant := some 10000000 } }
    Served .readPredict .p0 ahead ∧ ahead.traj.source = trackFrom 9990000 10500000 ∧ ListSound ahead.list ∧
    ahead.list.records.map (fun q => (q.id, q.status)) = [(401, .active)] ∧
    ahead.list.records.map (fun q => (q.nodes.filter fun n => decide (9990000 < n.time ∧ n.time ≤ 10500000)).length) = [2] :=
  ⟨by decide, by decide, by decide, by decide, by decide, by decide, rfl,
    test_tracking_list_is_sound (trackFrom 9990000 10500000) none, by decide, by decide⟩

theorem test_witness_BrakingFollowsTheBrakingDistance :
    (1 ≤ 10 ∧ 10 ≤ 10 ∧ 10 < 11) ∧ (11 : Int) ≠ 0 ∧ ((0 : Int) = 0 ∧ ((10 : Nat) : Int) < (11 : Int).natAbs) ∧
    ((0 : Int) < 1 ∧ (0 : Int) < 1) ∧ (-1 : Int) < 0 := by decide

theorem test_witness_ApproachFromRestReachesTheReference : 1 ≤ 10 ∧ 10 ≤ 10 := by decide

theorem test_witness_GeneratorStepChangesWithinAmax :
    ready.driven .az = true ∧ ∃ t, exec (.demandInstant false) ready = .next t ∧ t.driven .az = true :=
  ⟨by decide, after (.demandInstant false) ready, rfl, by decide⟩

/-! ### The correction unit -/

theorem test_witness_GuideRequestsFilterAndClamp :
    (∀ phase ∈ [Phase.none, .approach, .settle, .track],
      Served .guideSample .p0 (active phase) ∧ Served .guideReset .p0 (active phase) ∧ (active phase).ctrl.phase = phase) ∧
    (active .track).ctrl.options.guide = true ∧
    ({ (active .track).ctrl with options := .none } : Controller).options.guide = false := by decide

theorem test_witness_OffsetRequestsMoveTheTerms :
    let entry : OffsetEntry := ⟨0, 0, 10000, ⟨0, 0, 10000⟩, false⟩
    let pushed := fun n => ({ active .track with corr := { ready.corr with stack := List.replicate n entry } } : State)
    (Served .pushOffset .p0 (pushed 3) ∧ Served .popOffset .p0 (pushed 1) ∧ Served .clearOffsets .p0 (pushed 4)) ∧
    (3600000 < (3600001 : Word).toInt.natAbs ∧ ¬3600000 < (3600000 : Word).toInt.natAbs) ∧
    ((pushed 4).ctrl.phase ≠ .none ∧ 4 ≤ (pushed 4).corr.stack.length ∧ (pushed 3).corr.stack.length < 4) ∧
    ((stackTotals (pushed 2).corr.stack).rot.natAbs ≤ (pushed 2).image.offsetRange ∧
      ¬(stackTotals (pushed 3).corr.stack).rot.natAbs ≤ (pushed 3).image.offsetRange) ∧
    ((pushed 0).corr.stack = [] ∧ (pushed 2).corr.stack = entry :: [entry] ∧ ready.ctrl.phase = .none) := by decide

/-! ### The drive controller -/

theorem test_witness_EnableAxesReleasesTheNamedAxes :
    let off := axesIn .off ready
    let lost : State := { off with drive := off.drive.map fun d => { d with lastActual := none } }
    let latched : State := { off with lines := { off.lines with estop := true } }
    (Served .enableAxes .p0 off ∧ (0 : Byte).toNat = 0 ∧ 7 < (8 : Byte).toNat ∧ ¬7 < (7 : Byte).toNat) ∧
    (Served .enableAxes .p0 lost ∧ (lost.drive.get .az).state = .off ∧ (lost.drive.get .az).lastActual = none ∧
      (7 : Byte).getLsbD (axisNumber .az) = true) ∧
    (Served .enableAxes .p0 latched ∧ latched.lines.estop = true ∧ (latched.drive.get .el).state = .off) ∧
    (∀ a, ((off.drive.get a).state = .off ∧ (off.drive.get a).lastActual ≠ none ∧ (off.drive.get a).cutMask = 0)) ∧
    off.lines.estop = false ∧ 0 < ready.image.brakeMs.get .az :=
  ⟨by decide, by decide, by decide, fun a => by cases a <;> decide, rfl, by decide⟩

theorem test_witness_DisableAxesAndSetCutMask :
    (Served .disableAxes .p0 ready ∧ ready.ctrl.phase = .none ∧ (ready.drive.get .rot).state = .on ∧
      (4 : Byte).getLsbD (axisNumber .rot) = true ∧ 7 < (8 : Byte).toNat) ∧
    (Served .disableAxes .p0 (active .track) ∧ (active .track).ctrl.phase ≠ .none) ∧
    (Served .setCutMask .p0 ready ∧ 2 < (3 : Byte).toNat ∧ (2 : Byte).toNat = axisNumber .rot) := by decide

theorem test_witness_AxisTimersActWhenTheyExpire :
    let timed := fun st =>
      let d := { onAxis with state := st, brakeTimer := some 10000000, grace := some 10000000, cutMask := 0x40 }
      ({ ready with drive := ready.drive.set .el d } : State)
    ((timed .releasing).lines.reset = false ∧ ((timed .releasing).drive.get .el).brakeTimer = some 10000000 ∧
      10000000 ≤ (timed .releasing).time.clock ∧ ((timed .releasing).drive.get .el).state = .releasing) ∧
    ((timed (.stopping .setting)).drive.get .el).state = .stopping .setting ∧
    (((timed .on).drive.get .el).grace = some 10000000 ∧ ((timed .on).drive.get .el).cutMask.getLsbD 6 = true ∧
      ((timed .off).drive.get .el).state = .off) ∧
    ((onAxis.state = .on ∧ { onAxis with cutMask := 0x80 }.cutMask.getLsbD 7 = true ∧ onAxis.cutMask.getLsbD 7 = false) ∧
      (timed .on).ctrl.listState = .stop ∧ (inState .hold (timed .on)).ctrl.listState = .hold ∧
      (active .track).ctrl.listState = .run ∧ (active .track).ctrl.phase ≠ .none) := by decide

theorem test_witness_CutLinesCutTheAxesThatSelectThem :
    let s : State := { ready with drive := ⟨{ onAxis with cutMask := 0x02 }, { onAxis with cutMask := 0x80 }, onAxis⟩ }
    (s.lines.reset = false ∧ s.lines.level .azLimit = false ∧ (s.drive.get .az).state = .on ∧
      (s.drive.get .az).cutMask.getLsbD 1 = true) ∧
    (∀ a, (ready.drive.get a).cutMask.getLsbD 1 = false) ∧
    (s.ctrl.listState = .stop ∧ (inState .run s).ctrl.listState = .run ∧ s.ctrl.phase = .none ∧
      (active .track).ctrl.listState = .run ∧ (active .track).ctrl.phase ≠ .none) :=
  ⟨by decide, fun a => by cases a <;> decide, by decide⟩

/-- AZ with a frame open for a demand of 1,000,000. -/
def framed (demand : Bool) (last : Option DriveStatus) (mask : Byte) (s : State) : State :=
  let d := { onAxis with openFrame := some ⟨5, demand, 1000000, 10000000⟩, lastStatus := last, cutMask := mask }
  { s with drive := s.drive.set .az d }

theorem test_witness_DriveReplyIsCountedOrDiscarded :
    let d := fun demand last mask => (framed demand last mask ready).drive.get .az
    let within := fun actual : Word => ((1000000 : Int) - actual.toInt).natAbs ≤ ready.image.followLimit.get .az
    (ready.lines.reset = false ∧ (d true none 0).receiver = .hunting ∧ 2 < (3 : Byte).toNat) ∧
    (∀ demand, (d demand none 0).openFrame = some ⟨5, demand, 1000000, 10000000⟩) ∧ (5 : Byte) ≠ 6 ∧
    (within 0 ∧ ¬within 0xFFFFFFFF ∧ (framed true none 0 ready).ctrl.phase = .none ∧
      ∀ r ∈ (framed true none 0 ready).capture.fifo, r.closing ≠ none) ∧
    ((0 : Byte).toNat = 0 ∧ (1 : Byte).toNat = 1 ∧ (2 : Byte).toNat = 2) ∧
    ((d true (some .ok) 0x20).lastStatus ≠ some .fault ∧ (d true (some .ok) 0x20).state.canCut = true ∧
      (d true (some .ok) 0x20).cutMask.getLsbD 5 = true ∧ (d true none 0).cutMask.getLsbD 5 = false ∧
      (d true (some .fault) 0x20).lastStatus = some .fault) :=
  ⟨by decide, fun demand => by cases demand <;> rfl, by decide, by decide, by decide, by decide⟩

theorem test_witness_TrackingErrorsAreJudgedAndReported :
    let s := fun phase => framed true none 0 (active phase)
    let near : State := { s .settle with ctrl := { (s .settle).ctrl with
      lastError := .all (some 1000), options := .none, settleHold := none } }
    let record : CaptureRecord := ⟨1, 0, 401, .track, 0, .all 0, 0, false, false, 0, 0, none⟩
    let opened : State := { s .track with capture := { Capture.reset with
      accepted := .high, fifo := [record], collection := some ⟨10000000, ⟨none, some 5, some (-5)⟩⟩ } }
    (∀ phase, (s phase).lines.reset = false ∧ ((s phase).drive.get .az).receiver = .hunting ∧
      ((s phase).drive.get .az).openFrame = some ⟨5, true, 1000000, 10000000⟩ ∧ (s phase).capture.fifo = []) ∧
    (ready.image.followLimit.get .az < ((1000000 : Int) - (0xFFFFFFFF : Word).toInt).natAbs ∧
      ¬ready.image.followLimit.get .az < ((1000000 : Int) - (999000 : Word).toInt).natAbs ∧
      ((s .none).drive.get .az).following = false ∧ ((s .none).drive.get .az).grace = none ∧ (s .none).ctrl.phase = .none ∧
      0 < (s .none).image.followGraceMs) ∧
    ((s .settle).ctrl.phase = .settle ∧ (s .settle).ctrl.settleHold ≠ none ∧ near.ctrl.settleHold = none ∧
      near.ctrl.phase = .settle ∧ 0 < near.image.settleHoldMs ∧ (s .approach).ctrl.phase ≠ .settle) ∧
    (CaptureSound opened.capture ∧ record ∈ opened.capture.fifo ∧ record.closing = none ∧ record.targetEnded = false ∧
      opened.ctrl.activeId = record.targetId ∧ opened.ctrl.phase = .track) :=
  ⟨fun phase => by cases phase <;> decide, by decide, by decide, ⟨by decide, by decide, by decide⟩, by decide⟩

/-! ### The capture and notice units, the reads -/

theorem test_witness_CapturesOpenCloseAndAreRead :
    let at' := fun level (accepted : ShutterLevel) => ({ ready with
      traj := { ready.traj with lastInstant := some 10000000 }
      capture := { Capture.reset with accepted := accepted, candidate := some ⟨level, 9999900⟩ } } : State)
    let opened : State := { at' false .high with capture := { (at' false .high).capture with
      fifo := [⟨1, 0, 0, .none, 0, .all 0, 0, false, false, 0, 0, none⟩] } }
    ((at' true .low).image.filterUs ≤ (at' true .low).time.elapsed - 9999900 ∧
      ∃ t, exec .shutterCandidateAccepted (at' true .low) = .next t) ∧
    (ready.lines.reset = false ∧ 0 < ready.image.filterUs ∧ ready.capture.accepted ≠ .high ∧
      ready.capture.candidate = none ∧ State.reset.image.filterUs = 0 ∧ State.reset.capture.candidate = none) ∧
    ((at' true .low).capture.candidate = some ⟨true, 9999900⟩ ∧
      (at' true .low).image.filterUs ≤ (at' true .low).time.elapsed - 9999900 ∧
      (at' true .low).capture.accepted = .low ∧ (at' true .low).isValid = true ∧
      (at' true .low).traj.lastInstant = some 10000000) ∧
    ((at' true .unknown).capture.accepted = .unknown ∧ (at' false .high).capture.accepted = .high ∧
      (∀ r ∈ (at' false .high).capture.fifo, r.closing ≠ none) ∧ ∃ r ∈ opened.capture.fifo, r.closing = none) ∧
    Served .readCaptures .p0 opened := ⟨⟨by decide, _, rfl⟩, by decide⟩

theorem test_witness_NoticesAreRoutedReadAndRerouted :
    (Served .readNotices .p3 ready ∧ Served .setRouting .p3 ready ∧ Served .setThreshold .p3 ready) ∧
    ([NoticeSource.settled, .cutOff].Pairwise fun a b => noticeNumber a < noticeNumber b) ∧
    (11 < (12 : Byte).toNat ∧ (11 : Byte).toNat = noticeNumber .linkOverrun ∧ (15 : Byte).toNat ≤ 15 ∧
      15 < (16 : Byte).toNat ∧ (3 : Byte).toNat ≤ 3 ∧ 3 < (4 : Byte).toNat) ∧
    (ready.isValid = true ∧ 2 < (3 : Byte).toNat ∧ (2 : Byte).toNat ≤ 2) ∧
    (Served .setThreshold .p3 State.reset ∧ State.reset.isValid = false) := by decide

theorem test_witness_ReadsAnswerTheStateAndChangeNothing :
    Served .readSequence .p2 waiting ∧ Served .readTime .p2 waiting ∧ Served .readPointing .p2 waiting ∧
    Served .readCorrections .p2 waiting ∧ Served .readAxes .p2 waiting ∧ Served .readStatus .p2 waiting ∧
    (∃ w ∈ waiting.ctrl.watches, w.expired = false) := by decide

/-! ### Invariants, in a state with a waiting target, an open receive buffer and a demand under way -/

theorem test_witness_ListInvariantsAreKept :
    (ListSound waiting.list ∧ PhaseSound waiting ∧ WatchesMatch waiting ∧ TimersSound waiting.ctrl) ∧
    ∃ t, step waiting = .next t := by
  refine ⟨⟨test_one_record_is_sound _ ⟨by decide, by decide, by decide, by decide⟩ ready rfl,
    ⟨by decide, by decide, by decide⟩, ?_, ⟨by decide, by decide, by decide, by decide⟩⟩, _, rfl⟩
  intro id
  simp [waiting, withRecord, waitingTarget]

theorem test_witness_AxisInvariantsAreKept :
    OutputsMatch ready ∧ HeldAtRest (axesIn .off ready) ∧ DemandAgrees ready ∧ HeldAtRest ready ∧
    ∃ t, step ready = .next t :=
  ⟨fun a => by cases a <;> rfl, fun a => by cases a <;> decide, fun a => by cases a <;> decide,
    fun a => by cases a <;> decide, _, rfl⟩

theorem test_witness_CorrectionInvariantsAreKept :
    TermsAgree ready ∧ CorrectionsBounded ready ∧ ∃ t, step ready = .next t :=
  ⟨⟨fun a => by cases a <;> decide, by decide, by decide, by decide⟩,
    ⟨by decide, by decide, by decide, by decide, trivial⟩, _, rfl⟩

theorem test_witness_LinkAndNoticeInvariantsAreKept :
    LinksSound ready ∧ NoticesSound ready.notice ∧ ∃ t, step ready = .next t :=
  ⟨fun p => by cases p <;> exact ⟨by decide, by decide, by decide⟩, fun p => by cases p <;> decide, _, rfl⟩

theorem test_witness_CaptureAndClockInvariantsAreKept :
    CaptureSound ready.capture ∧ ClockSound ready.time ∧ ∃ t, step ready = .next t :=
  ⟨⟨by decide, by decide, by decide⟩, ⟨by decide, by simp [ready, TimeBase.reset]⟩, _, rfl⟩

theorem test_witness_PartIsInertUntilValid :
    InertUntilValid State.reset ∧ State.reset.isValid = false ∧ ∃ t, step State.reset = .next t :=
  ⟨fun _ => ⟨by decide, fun a => by cases a <;> decide, fun p => by cases p <;> rfl, rfl, fun src => by cases src <;> rfl,
    fun p => by cases p <;> decide⟩, rfl, _, rfl⟩

end Sys2Proof.Tests
end

section
/-! The night list's own laws: what each operation on the records and the log keeps of `ListSound`. -/

namespace Sys2Proof.Machine

/-! ## Placing in order (R5, R24) -/

section Placed
variable {α : Type}

/-- An element placed behind the longest run that goes before it. -/
theorem placed_perm (p : α → Bool) (x : α) (l : List α) : (l.takeWhile p ++ x :: l.dropWhile p).Perm (x :: l) :=
  List.perm_middle.trans (by rw [List.takeWhile_append_dropWhile])

/-- The result is in order when the list was and the element is in order with each element on its side. -/
theorem placed_pairwise {R : α → α → Prop} {p : α → Bool} {x : α} (htrans : ∀ a b c, R a b → R b c → R a c)
    (hbefore : ∀ y, p y = true → R y x) (hafter : ∀ y, p y = false → R x y) :
    ∀ {l : List α}, l.Pairwise R → (l.takeWhile p ++ x :: l.dropWhile p).Pairwise R
  | [], _ => by simp
  | y :: rest, h => by
    obtain ⟨hy, hrest⟩ := List.pairwise_cons.mp h
    cases hp : p y with
    | true =>
      simp only [List.takeWhile_cons_of_pos hp, List.dropWhile_cons_of_pos hp, List.cons_append]
      refine List.pairwise_cons.mpr ⟨fun z hz => ?_, placed_pairwise htrans hbefore hafter hrest⟩
      rcases List.mem_cons.mp ((placed_perm p x rest).mem_iff.mp hz) with rfl | hz
      · exact hbefore y hp
      · exact hy z hz
    | false =>
      have hxy := hafter y hp
      have hn : ¬p y = true := by simp [hp]
      simp only [List.takeWhile_cons_of_neg hn, List.dropWhile_cons_of_neg hn, List.nil_append]
      refine List.pairwise_cons.mpr ⟨fun z hz => ?_, h⟩
      rcases List.mem_cons.mp hz with rfl | hz
      · exact hxy
      · exact htrans x y z hxy (hy z hz)

end Placed

theorem placeRecord_eq (r : TargetRecord) (l : List TargetRecord) :
    placeRecord r l = l.takeWhile (before · r) ++ r :: l.dropWhile (before · r) := by
  induction l with
  | nil => rfl
  | cons x rest ih => cases h : before x r <;> simp [placeRecord, h, ih]

theorem placeEntry_eq (o : OutcomeEntry) (l : List OutcomeEntry) :
    placeEntry o l = l.takeWhile (fun x => decide (x.serial ≤ o.serial)) ++
      o :: l.dropWhile (fun x => decide (x.serial ≤ o.serial)) := by
  induction l with
  | nil => rfl
  | cons x rest ih => by_cases h : x.serial ≤ o.serial <;> simp [placeEntry, h, ih]

theorem placeRecord_perm (r : TargetRecord) (l : List TargetRecord) : (placeRecord r l).Perm (r :: l) := by
  rw [placeRecord_eq]; exact placed_perm ..

@[simp] theorem mem_placeRecord {r q : TargetRecord} {l : List TargetRecord} :
    q ∈ placeRecord r l ↔ q = r ∨ q ∈ l := by
  rw [(placeRecord_perm r l).mem_iff, List.mem_cons]

theorem placeEntry_length (o : OutcomeEntry) (l : List OutcomeEntry) : (placeEntry o l).length = l.length + 1 := by
  rw [placeEntry_eq]; exact (placed_perm ..).length_eq

theorem before_trans {a b c : TargetRecord} (h : before a b = true) (k : before b c = true) : before a c = true := by
  simp only [before, Bool.or_eq_true, Bool.and_eq_true, decide_eq_true_eq, beq_iff_eq] at *
  omega

theorem before_of_not {a b : TargetRecord} (h : before a b = false) : before b a = true := by
  simp only [before, Bool.or_eq_false_iff, Bool.and_eq_false_iff, Bool.or_eq_true, Bool.and_eq_true,
    decide_eq_true_eq, decide_eq_false_iff_not, beq_iff_eq, beq_eq_false_iff_ne] at *
  omega

theorem placeRecord_pairwise (r : TargetRecord) {l : List TargetRecord}
    (h : l.Pairwise fun a b => before a b = true) : (placeRecord r l).Pairwise fun a b => before a b = true := by
  rw [placeRecord_eq]
  exact placed_pairwise (R := fun a b => before a b = true) (fun _ _ _ => before_trans) (fun _ => id)
    (fun _ => before_of_not) h

theorem placeEntry_pairwise (o : OutcomeEntry) {l : List OutcomeEntry}
    (h : l.Pairwise fun a b => a.serial ≤ b.serial) : (placeEntry o l).Pairwise fun a b => a.serial ≤ b.serial := by
  rw [placeEntry_eq]
  refine placed_pairwise (R := fun a b : OutcomeEntry => a.serial ≤ b.serial) (fun _ _ _ => Nat.le_trans)
    (fun _ => of_decide_eq_true) (fun y hy => ?_) h
  exact Nat.le_of_not_le (of_decide_eq_false hy)

/-! ## Counts (R6, R7, R8) -/

theorem bump16_le (n : Nat) : bump16 n ≤ 65535 := by unfold bump16; omega

theorem nextSerial32_range (n : Nat) : 1 ≤ nextSerial32 n ∧ nextSerial32 n ≤ 4294967295 := by
  unfold nextSerial32 serial32Max; split <;> omega

@[simp] theorem nodesHeld_nil : nodesHeld [] = 0 := rfl

@[simp] theorem nodesHeld_cons (r : TargetRecord) (l : List TargetRecord) :
    nodesHeld (r :: l) = r.nodes.length + nodesHeld l := by simp [nodesHeld]

theorem nodesHeld_placeRecord (r : TargetRecord) (l : List TargetRecord) :
    nodesHeld (placeRecord r l) = r.nodes.length + nodesHeld l := by
  rw [← nodesHeld_cons]; exact ((placeRecord_perm r l).map _).sum_nat

theorem nodesHeld_filter_le (p : TargetRecord → Bool) (l : List TargetRecord) :
    nodesHeld (l.filter p) ≤ nodesHeld l := by
  induction l with
  | nil => exact Nat.le_refl _
  | cons r rest ih =>
    cases hp : p r with
    | true => rw [List.filter_cons_of_pos hp, nodesHeld_cons, nodesHeld_cons]; omega
    | false => rw [List.filter_cons_of_neg (by rw [hp]; exact Bool.false_ne_true), nodesHeld_cons]; omega

/-! ## One record changed -/

@[simp] theorem mem_modRecord {id : Nat} {f : TargetRecord → TargetRecord} {l : List TargetRecord} {q : TargetRecord} :
    q ∈ modRecord id f l ↔ ∃ r ∈ l, (if r.id = id then f r else r) = q := by
  simp [modRecord]

/-- A change that adds at most `n` nodes to a record adds at most `n` to the pool, since no other record has its id. -/
theorem nodesHeld_modRecord_le {id n : Nat} {f : TargetRecord → TargetRecord}
    (hf : ∀ r, (f r).nodes.length ≤ r.nodes.length + n) :
    ∀ {l : List TargetRecord}, (l.map (·.id)).Nodup → nodesHeld (modRecord id f l) ≤ nodesHeld l + n
  | [], _ => by simp [modRecord]
  | r :: rest, h => by
    obtain ⟨hr, hrest⟩ := List.nodup_cons.mp h
    have ih := nodesHeld_modRecord_le (id := id) hf hrest
    by_cases hid : r.id = id
    · have hne : ∀ q ∈ rest, q.id ≠ id := fun q hq he => hr (List.mem_map.mpr ⟨q, hq, he.trans hid.symm⟩)
      have hsame : modRecord id f rest = rest :=
        (List.map_congr_left fun q hq => if_neg (hne q hq)).trans (List.map_id rest)
      have := hf r
      simp only [modRecord, List.map_cons, hid, if_true, nodesHeld_cons] at hsame ⊢
      rw [hsame]; omega
    · simp only [modRecord, List.map_cons, hid, if_false, nodesHeld_cons] at ih ⊢
      omega

/-- With no id twice, records of one id are one. -/
theorem eq_of_nodup_ids {l : List TargetRecord} {r q : TargetRecord} (h : (l.map (·.id)).Nodup) (hr : r ∈ l)
    (hq : q ∈ l) (he : r.id = q.id) : r = q := by
  induction l with
  | nil => cases hr
  | cons x rest ih =>
    obtain ⟨hx, hrest⟩ := List.nodup_cons.mp h
    rcases List.mem_cons.mp hr with hrx | hr
    · rcases List.mem_cons.mp hq with hqx | hq
      · exact hrx.trans hqx.symm
      · exact absurd (List.mem_map.mpr ⟨q, hq, he.symm.trans (congrArg _ hrx)⟩) hx
    · rcases List.mem_cons.mp hq with hqx | hq
      · exact absurd (List.mem_map.mpr ⟨r, hr, he.trans (congrArg _ hqx)⟩) hx
      · exact ih hrest hr hq

/-! ## What is kept (R4 to R8, R23, R24) -/

/-- A changed record keeps its id and its place in list order. -/
structure SamePlace (f : TargetRecord → TargetRecord) : Prop where
  id : ∀ r, (f r).id = r.id
  start : ∀ r, (f r).start = r.start
  serial : ∀ r, (f r).serial = r.serial

namespace ListSound
variable {l : ListStore}

theorem reset : ListSound ListStore.reset := by
  refine ⟨?_, ?_, ?_, ?_, ?_, ?_, ?_, ?_, ?_, ?_⟩ <;> simp [ListStore.reset]

/-- A record of a sound list is the only one of its id. -/
theorem eq_of_id (h : ListSound l) {r q : TargetRecord} (hr : r ∈ l.records) (hq : q ∈ l.records) (he : r.id = q.id) :
    r = q := eq_of_nodup_ids h.ids hr hq he

theorem addRecord {r : TargetRecord} (h : ListSound l) (hr : RecordSound r) (hid : ∀ q ∈ l.records, q.id ≠ r.id)
    (hlen : l.records.length < listCapacity) (hpool : r.nodes.length ≤ freeCount l) :
    ListSound (Machine.addRecord r l) := by
  have hpl := h.pool
  refine { h with
    records := ?_, length := ?_, pool := ?_, ids := ?_, ordered := placeRecord_pairwise r h.ordered
    change := bump16_le _, serial := nextSerial32_range _ }
  · intro q hq
    rcases mem_placeRecord.mp hq with rfl | hq
    · exact hr
    · exact h.records q hq
  · rw [show (Machine.addRecord r l).records = placeRecord r l.records from rfl, (placeRecord_perm ..).length_eq]
    exact hlen
  · have := nodesHeld_placeRecord r l.records
    unfold freeCount at hpool
    simp only [Machine.addRecord]
    omega
  · have hn : (r.id :: l.records.map (·.id)).Nodup :=
      List.nodup_cons.mpr ⟨fun hm => by
        obtain ⟨q, hq, he⟩ := List.mem_map.mp hm
        exact hid q hq he, h.ids⟩
    exact ((placeRecord_perm r l.records).map TargetRecord.id).nodup_iff.mpr hn

theorem dropRecord (h : ListSound l) (id : Nat) : ListSound (Machine.dropRecord id l) :=
  { h with
    records := fun r hr => h.records r (List.mem_filter.mp hr).1
    length := Nat.le_trans (List.length_filter_le _ _) h.length
    pool := Nat.le_trans (nodesHeld_filter_le _ _) h.pool
    ids := h.ids.sublist (List.filter_sublist.map _)
    ordered := h.ordered.sublist List.filter_sublist
    change := bump16_le _ }

theorem logOutcome (h : ListSound l) (r : TargetRecord) (o : OutcomeKind) (e k : Nat) :
    ListSound (Machine.logOutcome r o e k l) := by
  have hlog := h.log
  refine { h with log := ?_, entries := placeEntry_pairwise _ ?_, entry := nextSerial32_range _ }
  · simp only [Machine.logOutcome, placeEntry_length]
    split
    next hroom => exact hroom
    next => simp only [List.length_tail, logCapacity] at *; omega
  · split
    · exact h.entries
    · exact h.entries.sublist (List.tail_sublist _)

/-- One record changed in its place, the pool still holding every node. -/
theorem modRecord {id change : Nat} {f : TargetRecord → TargetRecord} (h : ListSound l) (hf : SamePlace f)
    (hs : ∀ r ∈ l.records, r.id = id → RecordSound (f r)) (hp : nodesHeld (Machine.modRecord id f l.records) ≤ poolCapacity)
    (hc : change ≤ 65535) :
    ListSound { l with records := Machine.modRecord id f l.records, changeCount := change } := by
  have hid : ∀ r, (if r.id = id then f r else r).id = r.id := fun r => by split <;> simp [hf.id]
  have hb : ∀ a b, before (if a.id = id then f a else a) (if b.id = id then f b else b) = before a b := fun a b => by
    split <;> split <;> simp [before, hf.start, hf.serial]
  refine { h with records := ?_, length := ?_, pool := hp, ids := ?_, ordered := ?_, change := hc }
  · intro q hq
    obtain ⟨r, hr, rfl⟩ := mem_modRecord.mp hq
    split
    next he => exact hs r hr he
    next => exact h.records r hr
  · simpa [Machine.modRecord] using h.length
  · have he : (Machine.modRecord id f l.records).map (·.id) = l.records.map (·.id) := by
      simp only [Machine.modRecord, List.map_map]
      exact List.map_congr_left fun r _ => hid r
    rw [show ({ l with records := Machine.modRecord id f l.records, changeCount := change } : ListStore).records =
      Machine.modRecord id f l.records from rfl, he]
    exact h.ids
  · refine List.pairwise_map.mpr (h.ordered.imp fun {a b} hab => ?_)
    rw [hb]; exact hab

/-- A change that adds no node. -/
theorem modRecord_of_le {id change : Nat} {f : TargetRecord → TargetRecord} (h : ListSound l) (hf : SamePlace f)
    (hs : ∀ r ∈ l.records, r.id = id → RecordSound (f r)) (hn : ∀ r, (f r).nodes.length ≤ r.nodes.length)
    (hc : change ≤ 65535) :
    ListSound { l with records := Machine.modRecord id f l.records, changeCount := change } :=
  h.modRecord hf hs (Nat.le_trans (nodesHeld_modRecord_le (n := 0) hn h.ids) h.pool) hc

end ListSound

/-! ## Node order (R4) -/

/-- Nodes that follow in order may be appended. -/
theorem inOrderFrom_append {t : Nat} {ns ms : List TrackNode} (h : inOrderFrom t ns = true)
    (k : inOrderFrom ((ns.getLast?.map (·.time)).getD t) ms = true) : inOrderFrom t (ns ++ ms) = true := by
  induction ns generalizing t with
  | nil => simpa using k
  | cons n rest ih =>
    simp only [inOrderFrom, Bool.and_eq_true, List.cons_append] at h ⊢
    refine ⟨h.1, ih h.2 ?_⟩
    cases rest with
    | nil => simpa using k
    | cons m rest => simpa [List.getLast?_cons] using k

theorem inOrder_append {ns ms : List TrackNode} (hne : ns ≠ []) (h : inOrder ns = true)
    (k : inOrderFrom (finalTime ns) ms = true) : inOrder (ns ++ ms) = true := by
  cases ns with
  | nil => exact absurd rfl hne
  | cons n rest =>
    refine inOrderFrom_append h ?_
    cases rest with
    | nil => simpa [finalTime] using k
    | cons m rest => simpa [finalTime, List.getLast?_cons] using k

theorem inOrder_tail {ns : List TrackNode} (h : inOrder ns = true) : inOrder ns.tail = true := by
  match ns, h with
  | [], _ => rfl
  | [_], _ => rfl
  | _ :: m :: rest, h =>
    simp only [inOrder, inOrderFrom, Bool.and_eq_true, List.tail_cons] at h ⊢
    exact h.2

namespace RecordSound
variable {r : TargetRecord}

theorem append {ns : List TrackNode} (h : RecordSound r) (hord : inOrderFrom (lastTime r) ns = true)
    (hlen : r.nodes.length + ns.length ≤ recordCapacity) : RecordSound { r with nodes := r.nodes ++ ns } := by
  obtain ⟨h1, _⟩ := h.count
  refine { h with count := ⟨?_, ?_⟩, order := inOrder_append (fun he => ?_) h.order hord }
  · simp only [List.length_append]; omega
  · simpa using hlen
  · simp [he] at h1

theorem consume (h : RecordSound r) (hlen : 1 < r.nodes.length) : RecordSound { r with nodes := r.nodes.tail } := by
  have := h.count.2
  refine { h with count := ⟨?_, ?_⟩, order := inOrder_tail h.order } <;> simp only [List.length_tail] <;> omega

/-- The run-time fields of a record that is not WAITING are free. -/
theorem of_active (h : RecordSound r) {q : TargetRecord} (hid : q.id = r.id) (hn : q.nodes = r.nodes)
    (hs : q.status = .active) : RecordSound q where
  id := hid ▸ h.id
  count := hn ▸ h.count
  order := hn ▸ h.order
  waiting hw := by rw [hs] at hw; cases hw

end RecordSound

end Sys2Proof.Machine
end

section
/-! The four list invariants as one predicate of the state, and what each operation of the part keeps of it. -/

namespace Sys2Proof.Machine

/-! ## Records found -/

theorem findRecord_some {id : Nat} {l : List TargetRecord} {r : TargetRecord} (h : findRecord id l = some r) :
    r ∈ l ∧ r.id = id := ⟨List.mem_of_find?_eq_some h, by simpa using List.find?_some h⟩

theorem findRecord_none {id : Nat} {l : List TargetRecord} : findRecord id l = none ↔ ∀ r ∈ l, r.id ≠ id := by
  simp [findRecord, List.find?_eq_none]

theorem activeRecord_some {id : Nat} {l : List TargetRecord} {r : TargetRecord} (h : activeRecord id l = some r) :
    r ∈ l ∧ r.id = id ∧ r.status = .active := ⟨List.mem_of_find?_eq_some h, by
  have := List.find?_some h
  simpa using this⟩

/-! ## The invariant -/

/-- The night list, the phase, the start watches and the timers of the active target are sound. A lemma named `…_night` says
that an operation keeps it. -/
structure NightSound (s : State) : Prop where
  list : ListSound s.list
  phase : PhaseSound s
  watches : WatchesMatch s
  timers : TimersSound s.ctrl

/-- What the phase and the watches see of the list: the id and the status of each record. -/
def roster (l : ListStore) : List (Nat × RecordStatus) := l.records.map fun r => (r.id, r.status)

theorem phaseSound_iff {s : State} :
    PhaseSound s ↔ (s.ctrl.phase = .none ↔ s.ctrl.activeId = 0) ∧
      (∀ x ∈ roster s.list, x.2 = .active ↔ x.1 = s.ctrl.activeId) ∧
      (s.ctrl.phase ≠ .none → ∃ x ∈ roster s.list, x.1 = s.ctrl.activeId) := by
  have hall : (∀ x ∈ roster s.list, x.2 = .active ↔ x.1 = s.ctrl.activeId) ↔
      ∀ r ∈ s.list.records, r.status = .active ↔ r.id = s.ctrl.activeId := List.forall_mem_map
  have hex : (∃ x ∈ roster s.list, x.1 = s.ctrl.activeId) ↔ ∃ r ∈ s.list.records, r.id = s.ctrl.activeId := by
    constructor
    · rintro ⟨x, hx, he⟩
      obtain ⟨r, hr, rfl⟩ := List.mem_map.mp hx
      exact ⟨r, hr, he⟩
    · rintro ⟨r, hr, he⟩
      exact ⟨_, List.mem_map.mpr ⟨r, hr, rfl⟩, he⟩
  rw [hall, hex]
  exact ⟨fun ⟨h1, h2, h3⟩ => ⟨h1, h2, h3⟩, fun ⟨h1, h2, h3⟩ => ⟨h1, h2, h3⟩⟩

theorem watchesMatch_iff {s : State} :
    WatchesMatch s ↔ ∀ id, id ∈ s.ctrl.watches.map (·.id) ↔ (id, RecordStatus.waiting) ∈ roster s.list := by
  simp [WatchesMatch, roster]

namespace NightSound
variable {s t u : State}

/-- An operation that leaves the roster, the active id and the watched ids, and keeps the phase NONE or not NONE. -/
theorem update (h : NightSound s) (hl : ListSound t.list) (hr : roster t.list = roster s.list)
    (hp : t.ctrl.phase = .none ↔ s.ctrl.phase = .none) (hi : t.ctrl.activeId = s.ctrl.activeId)
    (hw : t.ctrl.watches.map (·.id) = s.ctrl.watches.map (·.id)) (ht : TimersSound t.ctrl) : NightSound t := by
  obtain ⟨-, hps, hws, -⟩ := h
  refine ⟨hl, ?_, ?_, ht⟩
  · rw [phaseSound_iff] at hps ⊢
    rw [hr, hi, hp, Ne, hp]; exact hps
  · rw [watchesMatch_iff] at hws ⊢
    rw [hr, hw]; exact hws

/-- An operation that moves neither the list store nor the target controller. -/
theorem congr (h : NightSound s) (hl : t.list = s.list) (hc : t.ctrl = s.ctrl) : NightSound t :=
  h.update (hl ▸ h.list) (by rw [hl]) (by rw [hc]) (by rw [hc]) (by rw [hc]) (hc ▸ h.timers)

/-- An operation that moves the list store alone, each record keeping its id and status. -/
theorem setList {l : ListStore} (h : NightSound s) (hl : ListSound l) (hr : roster l = roster s.list) :
    NightSound (s.setList l) := h.update hl hr Iff.rfl rfl rfl h.timers

/-- An operation that moves the target controller alone. -/
theorem setCtrl {c : Controller} (h : NightSound s) (hp : c.phase = .none ↔ s.ctrl.phase = .none)
    (hi : c.activeId = s.ctrl.activeId) (hw : c.watches.map (·.id) = s.ctrl.watches.map (·.id)) (ht : TimersSound c) :
    NightSound (s.setCtrl c) := h.update h.list rfl hp hi hw ht

theorem iff {c : Prop} [Decidable c] (h : c → NightSound t) (k : ¬c → NightSound u) :
    NightSound (if c then t else u) := by
  split
  next hc => exact h hc
  next hc => exact k hc

/-- A fold of operations that keep it. -/
theorem fold {α : Type} {f : State → α → State} (hf : ∀ s x, NightSound s → NightSound (f s x)) (l : List α) :
    ∀ s, NightSound s → NightSound (l.foldl f s) := by
  induction l with
  | nil => exact fun _ h => h
  | cons x rest ih => exact fun s h => ih _ (hf s x h)

/-- With no record, and the target controller at its power-on values. -/
theorem of_empty (hl : ListSound s.list) (hr : s.list.records = []) (hc : s.ctrl = .reset) : NightSound s where
  list := hl
  phase := ⟨by simp [hc, Controller.reset], by simp [hr], by simp [hc, Controller.reset]⟩
  watches := by simp [WatchesMatch, hr, hc, Controller.reset]
  timers := by rw [hc]; exact ⟨by simp [Controller.reset], by simp [Controller.reset], by simp [Controller.reset],
    by simp [Controller.reset]⟩

/-! ## Records and the active target -/

/-- A WAITING record is not the active target's. -/
theorem ne_active (h : NightSound s) {r : TargetRecord} (hr : r ∈ s.list.records) (hw : r.status = .waiting) :
    r.id ≠ s.ctrl.activeId := fun he => by
  have := (h.phase.active r hr).mpr he
  rw [hw] at this; cases this

/-- In a phase other than NONE the list store holds the active record. -/
theorem active_found (h : NightSound s) (hp : s.ctrl.phase ≠ .none) :
    ∃ r, activeRecord s.ctrl.activeId s.list.records = some r := by
  obtain ⟨q, hq, hid⟩ := h.phase.present hp
  cases hf : activeRecord s.ctrl.activeId s.list.records with
  | none =>
    have := List.find?_eq_none.mp hf q hq
    simp [hid, (h.phase.active q hq).mpr hid] at this
  | some r => exact ⟨r, rfl⟩

/-- A removal of the records and the watches of an id keeps the watches with the WAITING records. -/
theorem watches_drop {id : Nat} (h : NightSound s) (hr : t.list.records = s.list.records.filter fun r => r.id != id)
    (hw : t.ctrl.watches = s.ctrl.watches.filter fun w => w.id != id) : WatchesMatch t := by
  intro i
  have hi := h.watches i
  rw [hr, hw]
  by_cases he : i = id
  · subst he
    simp only [List.mem_filter, bne_iff_ne]
    exact ⟨fun ⟨_, ⟨_, hn⟩, hid⟩ => absurd hid hn, fun ⟨_, ⟨_, hn⟩, hid, _⟩ => absurd hid hn⟩
  · simp only [List.mem_filter, bne_iff_ne]
    constructor
    · rintro ⟨w, ⟨hwm, -⟩, hid⟩
      obtain ⟨r, hrm, hrid, hst⟩ := hi.mp ⟨w, hwm, hid⟩
      exact ⟨r, ⟨hrm, hrid ▸ he⟩, hrid, hst⟩
    · rintro ⟨r, ⟨hrm, -⟩, hrid, hst⟩
      obtain ⟨w, hwm, hid⟩ := hi.mpr ⟨r, hrm, hrid, hst⟩
      exact ⟨w, ⟨hwm, hid ▸ he⟩, hid⟩

/-- A WAITING record leaves with its watch. -/
theorem drop_waiting {r : TargetRecord} (h : NightSound s) (hr : r ∈ s.list.records) (hw : r.status = .waiting)
    (hl : ListSound t.list) (hrec : t.list.records = s.list.records.filter fun q => q.id != r.id)
    (hc : t.ctrl = { s.ctrl with watches := s.ctrl.watches.filter fun w => w.id != r.id }) : NightSound t := by
  have hne := h.ne_active hr hw
  refine ⟨hl, ⟨?_, ?_, ?_⟩, h.watches_drop hrec (by rw [hc]), ?_⟩
  · rw [hc]; exact h.phase.idle
  · rw [hrec, hc]
    exact fun q hq => h.phase.active q (List.mem_filter.mp hq).1
  · rw [hrec, hc]
    intro hp
    obtain ⟨q, hq, hid⟩ := h.phase.present hp
    exact ⟨q, List.mem_filter.mpr ⟨hq, by simpa [hid] using hne.symm⟩, hid⟩
  · rw [hc]
    exact { h.timers with }

end NightSound

/-! ## The list store's operations on the state -/

@[simp] theorem noteEmpty_list (s : State) : (noteEmpty s).list = s.list := by unfold noteEmpty; split <;> rfl

@[simp] theorem noteEmpty_ctrl (s : State) : (noteEmpty s).ctrl = s.ctrl := by unfold noteEmpty; split <;> rfl

@[simp] theorem removeWithOutcome_list (r : TargetRecord) (o : OutcomeKind) (e k : Nat) (s : State) :
    (removeWithOutcome r o e k s).list = dropRecord r.id (logOutcome r o e k s.list) := by
  simp [removeWithOutcome, dropWatch]

@[simp] theorem removeWithOutcome_ctrl (r : TargetRecord) (o : OutcomeKind) (e k : Nat) (s : State) :
    (removeWithOutcome r o e k s).ctrl =
      { s.ctrl with watches := s.ctrl.watches.filter fun w => w.id != r.id } := by
  simp [removeWithOutcome, dropWatch]

theorem dropRecord_records (id : Nat) (l : ListStore) :
    (dropRecord id l).records = l.records.filter fun r => r.id != id := rfl

theorem logOutcome_records (r : TargetRecord) (o : OutcomeKind) (e k : Nat) (l : ListStore) :
    (logOutcome r o e k l).records = l.records := rfl

/-- A change that keeps each record's id and status keeps the roster. -/
theorem roster_modRecord {id change : Nat} {f : TargetRecord → TargetRecord} {l : ListStore}
    (hid : ∀ r, (f r).id = r.id) (hst : ∀ r, (f r).status = r.status) :
    roster { l with records := modRecord id f l.records, changeCount := change } = roster l := by
  simp only [roster, modRecord, List.map_map]
  refine List.map_congr_left fun r _ => ?_
  simp only [Function.comp_apply]
  split <;> simp [hid, hst]

section Operations
variable {s : State}

theorem raise_night (src : NoticeSource) (h : NightSound s) : NightSound (raise src s) := h.congr rfl rfl

theorem removeWithOutcome_night {r : TargetRecord} {o : OutcomeKind} {e k : Nat} (hr : r ∈ s.list.records)
    (hw : r.status = .waiting) (h : NightSound s) : NightSound (removeWithOutcome r o e k s) :=
  h.drop_waiting hr hw (by rw [removeWithOutcome_list]; exact (h.list.logOutcome ..).dropRecord _)
    (by rw [removeWithOutcome_list, dropRecord_records, logOutcome_records]) (by rw [removeWithOutcome_ctrl])

theorem removeWithoutOutcome_night {r : TargetRecord} (hr : r ∈ s.list.records) (hw : r.status = .waiting)
    (h : NightSound s) : NightSound (removeWithoutOutcome r.id s) := by
  refine h.drop_waiting hr hw ?_ ?_ ?_ <;> simp only [removeWithoutOutcome, dropWatch, noteEmpty_list, noteEmpty_ctrl]
  · exact h.list.dropRecord _
  · rfl
  · rfl

/-- A record joins, WAITING, with its watch. -/
theorem addRecord_night {r : TargetRecord} {w : StartWatch} (hr : RecordSound r) (hw : r.status = .waiting)
    (hid : ∀ q ∈ s.list.records, q.id ≠ r.id) (hlen : s.list.records.length < listCapacity)
    (hpool : r.nodes.length ≤ freeCount s.list) (hwid : w.id = r.id) (h : NightSound s) :
    NightSound ((s.setList (addRecord r s.list)).modCtrl fun c => { c with watches := c.watches ++ [w] }) := by
  obtain ⟨hidle, hact, hpres⟩ := h.phase
  have hmem : ∀ q, q ∈ (addRecord r s.list).records ↔ q = r ∨ q ∈ s.list.records := fun _ => mem_placeRecord
  refine ⟨h.list.addRecord hr hid hlen hpool, ⟨hidle, ?_, ?_⟩, ?_,
    { h.timers with }⟩
  · intro q hq
    rcases (hmem q).mp hq with rfl | hq
    · have hne : q.id ≠ s.ctrl.activeId := fun he => by
        by_cases hp : s.ctrl.phase = .none
        · exact hr.id (he.trans (hidle.mp hp))
        · obtain ⟨x, hx, hxid⟩ := hpres hp
          exact hid x hx (hxid.trans he.symm)
      simpa [hw] using hne
    · exact hact q hq
  · intro hp
    obtain ⟨q, hq, hqid⟩ := hpres hp
    exact ⟨q, (hmem q).mpr (.inr hq), hqid⟩
  · intro i
    have hi := h.watches i
    have hl : (∃ x ∈ s.ctrl.watches ++ [w], x.id = i) ↔ (∃ x ∈ s.ctrl.watches, x.id = i) ∨ r.id = i := by
      simp [or_and_right, exists_or, hwid]
    have hrr : (∃ q ∈ (addRecord r s.list).records, q.id = i ∧ q.status = .waiting) ↔
        (∃ q ∈ s.list.records, q.id = i ∧ q.status = .waiting) ∨ r.id = i := by
      simp only [hmem, or_and_right, exists_or, exists_eq_left, hw, and_true]
      exact or_comm
    exact hl.trans ((or_congr_left hi).trans hrr.symm)

theorem appendToRecord_night {r : TargetRecord} {ns : List TrackNode} (hr : r ∈ s.list.records)
    (hord : inOrderFrom (lastTime r) ns = true) (hlen : r.nodes.length + ns.length ≤ recordCapacity)
    (hpool : ns.length ≤ freeCount s.list) (h : NightSound s) :
    NightSound (s.setList (appendToRecord r.id ns s.list)) := by
  refine h.setList (h.list.modRecord ⟨fun _ => rfl, fun _ => rfl, fun _ => rfl⟩ ?_ ?_ (bump16_le _))
    (roster_modRecord (fun _ => rfl) fun _ => rfl)
  · intro q hq hid
    rw [h.list.eq_of_id hq hr hid]
    exact (h.list.records r hr).append hord hlen
  · have hadd := nodesHeld_modRecord_le (id := r.id) (n := ns.length)
      (f := fun q => { q with nodes := q.nodes ++ ns }) (fun q => by simp) h.list.ids
    have := h.list.pool
    unfold freeCount at hpool
    omega

theorem reportNode_night (id : Nat) (h : NightSound s) : NightSound (reportNode id s) := by
  unfold reportNode consumeNode
  split
  · exact h.setList h.list rfl
  next r hr =>
    obtain ⟨hrm, hid, -⟩ := activeRecord_some hr
    split
    · exact h.setList h.list rfl
    next hlen =>
      refine h.setList (h.list.modRecord_of_le ⟨fun _ => rfl, fun _ => rfl, fun _ => rfl⟩ ?_ (fun q => by simp)
        (bump16_le _)) (roster_modRecord (fun _ => rfl) fun _ => rfl)
      intro q hq hqid
      rw [h.list.eq_of_id hq hrm (hqid.trans hid.symm)]
      exact (h.list.records r hrm).consume (by omega)

/-- A run-time field of the active record changed. -/
theorem modActive_night {f : TargetRecord → TargetRecord} (hf : SamePlace f) (hst : ∀ r, (f r).status = r.status)
    (hn : ∀ r, (f r).nodes = r.nodes) (h : NightSound s) :
    NightSound (s.setList { s.list with records := modRecord s.ctrl.activeId f s.list.records }) := by
  refine h.setList (h.list.modRecord_of_le hf ?_ (fun r => Nat.le_of_eq (congrArg List.length (hn r))) h.list.change)
    (roster_modRecord hf.id hst)
  intro r hr hid
  exact (h.list.records r hr).of_active (hf.id r) (hn r) ((hst r).trans ((h.phase.active r hr).mpr hid))

theorem countGuide_night (h : NightSound s) : NightSound (countGuide s.ctrl.activeId s) :=
  modActive_night ⟨fun _ => rfl, fun _ => rfl, fun _ => rfl⟩ (fun _ => rfl) (fun _ => rfl) h

theorem noteFirstTrack_night (now : Nat) (h : NightSound s) : NightSound (noteFirstTrack s.ctrl.activeId now s) :=
  modActive_night ⟨fun _ => rfl, fun _ => rfl, fun _ => rfl⟩ (fun _ => rfl) (fun _ => rfl) h

end Operations

end Sys2Proof.Machine
end

section
/-! What the target controller's work keeps of `NightSound`: endings, starts, settling and the list state (02). -/

namespace Sys2Proof.Machine

section Target
variable {s : State}

/-! ## Timers (R28, R38, R39) -/

theorem clearContext_timers (c : Controller) : TimersSound (clearContext c) := by
  constructor <;> simp [clearContext]

theorem startContext_timers (r : TargetRecord) (timeout : Nat) (c : Controller) :
    TimersSound (startContext r timeout c) := by
  constructor <;> simp [startContext]

/-- A change of the controller outside the phase, the active id, the watches and the timers. -/
theorem modCtrl_night {f : Controller → Controller} (h : NightSound s)
    (hf : ∀ c, f c = { c with
      listState := (f c).listState, dwell := (f c).dwell, options := (f c).options, trackedUs := (f c).trackedUs
      firstTrackReached := (f c).firstTrackReached, lastError := (f c).lastError, serial := (f c).serial }) :
    NightSound (s.modCtrl f) := by
  have hc := hf s.ctrl
  refine h.setCtrl ?_ ?_ ?_ ?_
  · rw [hc]
  · rw [hc]
  · rw [hc]
  · rw [hc]; exact { h.timers with }

theorem handOver_night (c : SlotContent) (h : NightSound s) : NightSound (handOver c s) :=
  (modCtrl_night (f := fun c => { c with serial := bump16 s.ctrl.serial }) h fun _ => rfl).congr rfl rfl

theorem setListState_night (l : ListState) (h : NightSound s) : NightSound (s.setListState l) :=
  modCtrl_night h fun _ => rfl

/-! ## Endings (R43, R44) -/

/-- An ending of an active target: its record leaves and the context is cleared. -/
theorem closeTarget_eqs (o : OutcomeKind) (h : NightSound s) (hp : s.ctrl.phase ≠ .none) :
    (∃ l, ListSound l ∧ l.records = s.list.records ∧
      (closeTarget o s).list = dropRecord s.ctrl.activeId l) ∧
    (closeTarget o s).ctrl =
      clearContext { s.ctrl with watches := s.ctrl.watches.filter fun w => w.id != s.ctrl.activeId } := by
  obtain ⟨r, hr⟩ := h.active_found hp
  obtain ⟨-, hid, -⟩ := activeRecord_some hr
  have he : removeActive o s = removeWithOutcome r o s.time.clock (roundMs (trackedAt s.time.clock s.ctrl)) s := by
    simp [removeActive, hr]
  refine ⟨⟨_, h.list.logOutcome r o s.time.clock (roundMs (trackedAt s.time.clock s.ctrl)), rfl, ?_⟩, ?_⟩
  · change (removeActive o s).list = _
    rw [he, removeWithOutcome_list, hid]
  · change clearContext (removeActive o s).ctrl = _
    rw [he, removeWithOutcome_ctrl, hid]

theorem closeTarget_records (o : OutcomeKind) (h : NightSound s) (hp : s.ctrl.phase ≠ .none) :
    (closeTarget o s).list.records = s.list.records.filter fun r => r.id != s.ctrl.activeId := by
  obtain ⟨⟨l, -, hrec, hl⟩, -⟩ := closeTarget_eqs o h hp
  rw [hl, dropRecord_records, hrec]

theorem closeTarget_night (o : OutcomeKind) (h : NightSound s) (hp : s.ctrl.phase ≠ .none) :
    NightSound (closeTarget o s) := by
  obtain ⟨⟨l, hls, hrec, hl⟩, hc⟩ := closeTarget_eqs o h hp
  have hr := closeTarget_records o h hp
  refine ⟨hl ▸ hls.dropRecord _, ⟨?_, ?_, ?_⟩, h.watches_drop hr (by rw [hc]; rfl), hc ▸ clearContext_timers _⟩
  · simp [hc, clearContext]
  · rw [hr, hc]
    intro q hq
    obtain ⟨hq, hne⟩ := List.mem_filter.mp hq
    have hst : q.status ≠ .active := fun hs => by simp [(h.phase.active q hq).mp hs] at hne
    simpa [clearContext, hst] using (h.list.records q hq).id
  · simp [hc, clearContext]

theorem closeTarget_phase (o : OutcomeKind) (s : State) : (closeTarget o s).ctrl.phase = .none := rfl

/-! ## Starts (R31 to R34) -/

/-- A start of a WAITING record while no target is active. -/
theorem startTarget_night {r : TargetRecord} (turns : Int) (h : NightSound s) (hp : s.ctrl.phase = .none)
    (hr : r ∈ s.list.records) : NightSound (startTarget r turns s) := by
  have hzero := h.phase.idle.mp hp
  have hrid := (h.list.records r hr).id
  have hw : (startTarget r turns s).ctrl.watches = s.ctrl.watches.filter fun w => w.id != r.id := rfl
  obtain ⟨now, late, hl⟩ : ∃ now late, (startTarget r turns s).list = activate r.id now late s.list := ⟨_, _, rfl⟩
  have hmem : ∀ q, q ∈ (startTarget r turns s).list.records ↔ ∃ x ∈ s.list.records,
      (if x.id = r.id then { x with status := .active, actualStart := some now, late := late } else x) = q := fun q => by
    rw [hl]; exact mem_modRecord
  have hwaits : ∀ q ∈ s.list.records, q.status = .waiting := fun q hq => by
    cases hs : q.status with
    | waiting => rfl
    | active => exact absurd ((h.phase.active q hq).mp hs) (by rw [hzero]; exact (h.list.records q hq).id)
  refine ⟨?_, ⟨?_, ?_, ?_⟩, ?_, startContext_timers r _ _⟩
  · rw [hl]
    exact h.list.modRecord_of_le ⟨fun _ => rfl, fun _ => rfl, fun _ => rfl⟩
      (fun q hq _ => (h.list.records q hq).of_active rfl rfl rfl) (fun _ => Nat.le_refl _) (bump16_le _)
  · exact iff_of_false (fun hn => by cases hn) hrid
  · intro q hq
    obtain ⟨x, hx, rfl⟩ := (hmem q).mp hq
    change _ ↔ _ = r.id
    split
    next he => simpa using he
    next he => simpa [hwaits x hx] using he
  · intro _
    exact ⟨_, (hmem _).mpr ⟨r, hr, rfl⟩, by rw [if_pos rfl]; rfl⟩
  · intro i
    have hi := h.watches i
    rw [hw]
    constructor
    · rintro ⟨w, hwm, rfl⟩
      obtain ⟨hwm, hne⟩ := List.mem_filter.mp hwm
      obtain ⟨x, hx, hxid, hst⟩ := hi.mp ⟨w, hwm, rfl⟩
      have hne' : ¬x.id = r.id := by rw [hxid]; simpa using hne
      exact ⟨x, (hmem x).mpr ⟨x, hx, if_neg hne'⟩, hxid, hst⟩
    · rintro ⟨q, hq, hid, hst⟩
      obtain ⟨x, hx, rfl⟩ := (hmem q).mp hq
      split at hst
      next => cases hst
      next he =>
        rw [if_neg he] at hid
        obtain ⟨w, hwm, hwid⟩ := hi.mpr ⟨x, hx, hid, hst⟩
        exact ⟨w, List.mem_filter.mpr ⟨hwm, by simpa [hwid, ← hid] using he⟩, hwid⟩

theorem candidate_some {r : TargetRecord} (h : candidate s = some r) : r ∈ s.list.records ∧ r.status = .waiting := by
  refine ⟨List.mem_of_find?_eq_some h, ?_⟩
  have := List.find?_some h
  simp only [Bool.and_eq_true, beq_iff_eq] at this
  exact this.1.1

theorem targetActive_iff (s : State) : s.targetActive = true ↔ s.ctrl.phase ≠ .none := by
  simp [State.targetActive]

theorem chooseStart_night (fuel : Nat) : ∀ {s : State}, NightSound s → NightSound (chooseStart fuel s) := by
  induction fuel with
  | zero => exact fun h => h
  | succ n ih =>
    intro s h
    unfold chooseStart
    split
    · exact h
    next r hr =>
      obtain ⟨hmem, hw⟩ := candidate_some hr
      refine .iff (fun _ => h) fun _ => ?_
      split
      · exact ih (raise_night _ (removeWithOutcome_night hmem hw h))
      next turns _ =>
        split
        next ha =>
          have hp := (targetActive_iff s).mp ha
          refine startTarget_night turns (closeTarget_night _ h hp) (closeTarget_phase ..) ?_
          rw [closeTarget_records _ h hp]
          exact List.mem_filter.mpr ⟨hmem, by simpa using h.ne_active hmem hw⟩
        next ha => exact startTarget_night turns h (by simpa [targetActive_iff] using ha) hmem

theorem startCheck_night (h : NightSound s) : NightSound (startCheck s) := .iff (fun _ => chooseStart_night _ h) fun _ => h

theorem endTarget_night (o : OutcomeKind) (h : NightSound s) (hp : s.ctrl.phase ≠ .none) : NightSound (endTarget o s) := by
  have hs := startCheck_night (closeTarget_night o h hp)
  exact .iff (fun _ => handOver_night _ hs) fun _ => hs

theorem endIfActive_night (o : OutcomeKind) (h : NightSound s) : NightSound (endIfActive o s) :=
  .iff (fun ha => endTarget_night o h ((targetActive_iff s).mp ha)) fun _ => h

/-! ## Settling (R35 to R40) -/

/-- A controller that moves within the phases other than NONE, with the active id and the watches as they were. -/
theorem setCtrl_active_night {c : Controller} (h : NightSound s) (hs : s.ctrl.phase ≠ .none) (hc : c.phase ≠ .none)
    (hi : c.activeId = s.ctrl.activeId) (hw : c.watches = s.ctrl.watches) (ht : TimersSound c) :
    NightSound (s.setCtrl c) :=
  h.setCtrl (iff_of_false hc hs) hi (by rw [hw]) ht

theorem enterTrack_night (h : NightSound s) (hp : s.ctrl.phase = .settle) : NightSound (enterTrack s) := by
  have hactive : s.ctrl.phase ≠ .none := by simp [hp]
  have hd : s.ctrl.dwellTimer.isSome = true → Phase.track = .settle ∨ Phase.track = .track := fun _ => .inr rfl
  unfold enterTrack
  refine .iff (fun _ => ?_) fun _ => raise_night _ (noteFirstTrack_night (s := State.modCtrl (s.setCtrl _) _) _ ?_)
  · exact setCtrl_active_night h hactive (by simp) rfl rfl ⟨by simp, by simp, hd, by simp⟩
  · exact setCtrl_active_night (s := s) h hactive (by simp) rfl rfl ⟨by simp, by simp, by simp, by simp⟩

theorem judgeSettle_night (h : NightSound s) (hp : s.ctrl.phase = .settle) : NightSound (judgeSettle s) := by
  have hactive : s.ctrl.phase ≠ .none := by simp [hp]
  have hhold : ∀ x, NightSound (s.modCtrl fun c => { c with settleHold := x }) := fun x =>
    setCtrl_active_night h hactive hactive rfl rfl ⟨h.timers.timeout, fun _ => hp, h.timers.dwell, h.timers.entry⟩
  unfold judgeSettle
  refine .iff (fun _ => ?_) fun _ => hhold none
  split
  · exact h
  · exact .iff (fun _ => enterTrack_night h hp) fun _ => hhold _

theorem arrivalReport_night (serial : Nat) (h : NightSound s) : NightSound (arrivalReport serial s) := by
  refine .iff (fun hc => judgeSettle_night ?_ rfl) fun _ => h
  have hp := hc.2
  have ht := h.timers
  refine setCtrl_active_night h (by simp [hp]) (by simp) rfl rfl ⟨?_, fun _ => rfl, fun _ => .inl rfl, ?_⟩
  · exact iff_of_true (ht.timeout.mpr (.inl hp)) (.inr rfl)
  · exact iff_of_false (fun he => by simp [ht.entry.mp he] at hp) (by simp)

theorem trackingReport_night (a : Axis) (error : Int) (h : NightSound s) : NightSound (trackingReport a error s) := by
  have hs := modCtrl_night (f := fun c => { c with lastError := c.lastError.set a (some error) }) h fun _ => rfl
  exact .iff (fun _ => .iff (fun hp => judgeSettle_night hs hp) fun _ => hs) fun _ => h

theorem offsetMoved_night (h : NightSound s) : NightSound (offsetMoved s) := by
  have ht := h.timers
  unfold offsetMoved
  split
  · exact h
  · exact h
  next hp =>
    exact setCtrl_active_night h (by simp [hp]) (by simp [hp]) rfl rfl
      ⟨by simp [hp], by simp, ht.dwell, ht.entry⟩
  next hp =>
    exact setCtrl_active_night h (by simp [hp]) (by simp) rfl rfl ⟨by simp, by simp, fun _ => .inl rfl, by simp⟩

theorem endReport_night (o : OutcomeKind) (serial : Nat) (h : NightSound s) : NightSound (endReport o serial s) :=
  .iff (fun _ => endIfActive_night o h) fun _ => h

/-! ## List state (R47, R50 to R52) -/

theorem stopList_night (o : OutcomeKind) (h : NightSound s) : NightSound (stopList o s) :=
  handOver_night _ (endIfActive_night o (setListState_night _ h))

theorem cutReport_night (h : NightSound s) : NightSound (cutReport s) := by
  unfold cutReport
  split
  · exact stopList_night _ h
  · exact stopList_night _ h
  · exact h
  · exact h

theorem stowRise_night (h : NightSound s) : NightSound (stowRise s) :=
  raise_night _ (handOver_night _ (endIfActive_night _ (setListState_night _ h)))

theorem stowFall_night (h : NightSound s) : NightSound (stowFall s) :=
  .iff (fun _ => raise_night _ (setListState_night _ h)) fun _ => h

theorem judgeStow_night (h : NightSound s) : NightSound (judgeStow s) := .iff (fun _ => stowRise_night h) fun _ => h

end Target

end Sys2Proof.Machine
end

section
/-! What the rest of the part keeps of `NightSound`, command by command, and the step. -/

namespace Sys2Proof.Machine

section Units
variable {s : State}

/-! ## Corrections (06) -/

theorem changeStack_night (stack : List OffsetEntry) (change : PerAxis Int) (h : NightSound s) :
    NightSound (changeStack stack change s) := by
  have hs : NightSound (moveTerms change (.all 0) (s.setCorr { s.corr with stack := stack })) := h.congr rfl rfl
  exact .iff (fun _ => hs) fun _ => offsetMoved_night hs

theorem takeSample_night (x : GuideFigures) (h : NightSound s) : NightSound (takeSample x s) := by
  have hs := (countGuide_night h).congr (t := takeSample x s)
  refine hs ?_ ?_ <;> unfold takeSample <;> dsimp only <;> split <;> rfl

/-! ## Drives (07) -/

theorem enterCut_night (c : CutSource) (a : Axis) (h : NightSound s) : NightSound (enterCut c a s) :=
  raise_night _ (cutReport_night (h.congr rfl rfl))

theorem chainCut_night (fuel : Nat) : ∀ (a : Axis) {s : State}, NightSound s → NightSound (chainCut fuel a s) := by
  induction fuel with
  | zero => exact fun _ _ h => h
  | succ n ih =>
    exact fun a s h => .fold (fun t b ht => .iff (fun _ => ih b (enterCut_night _ b ht)) fun _ => ht) (otherAxes a) s h

theorem cutOwn_night (c : CutSource) (a : Axis) (h : NightSound s) : NightSound (cutOwn c a s) :=
  .iff (fun _ => chainCut_night _ a (enterCut_night c a h)) fun _ => h

theorem cutByLine_night (c : CutSource) (h : NightSound s) : NightSound (cutByLine c s) :=
  .fold (fun _ a ht => chainCut_night _ a ht) _ _ (.fold (fun _ a ht => enterCut_night c a ht) _ s h)

theorem enterOn_night (a : Axis) (h : NightSound s) : NightSound (enterOn a s) := by
  have hs : NightSound ((s.modDrive a fun d => { d with state := .on, brakeTimer := none }).modTraj a driveAgain) :=
    h.congr rfl rfl
  exact .iff (fun _ => startCheck_night hs) fun _ => hs

theorem enterReleasing_night (a : Axis) (h : NightSound s) : NightSound (enterReleasing a s) :=
  .iff (fun _ => enterOn_night a (h.congr rfl rfl)) fun _ => h.congr rfl rfl

theorem enterOff_night (a : Axis) (h : NightSound s) : NightSound (enterOff a s) := h.congr rfl rfl

theorem atRest_night (a : Axis) (h : NightSound s) : NightSound (atRest a s) := by
  unfold atRest
  split
  · exact .iff (fun _ => h.congr rfl rfl) fun _ => h.congr rfl rfl
  all_goals exact h

theorem followingRise_night (a : Axis) (h : NightSound s) : NightSound (followingRise a s) :=
  cutOwn_night _ a (h.congr rfl rfl)

theorem judgeFollowing_night (a : Axis) (e : Int) (h : NightSound s) : NightSound (judgeFollowing a e s) :=
  .iff (fun _ => .iff (fun _ => h) fun _ => .iff (fun _ => followingRise_night a h) fun _ => h.congr rfl rfl)
    fun _ => h.congr rfl rfl

theorem captureReport_night (a : Axis) (e : TrackingError) (h : NightSound s) : NightSound (captureReport a e s) := by
  unfold captureReport
  split
  · exact h
  · exact .iff (fun _ => h.congr rfl rfl) fun _ => h.congr rfl rfl

theorem formError_night (a : Axis) (f : OpenFrame) (x : Int) (h : NightSound s) : NightSound (formError a f x s) :=
  captureReport_night _ _ (trackingReport_night _ _ (judgeFollowing_night _ _ (h.congr rfl rfl)))

theorem countReply_night (a : Axis) (f : OpenFrame) (r : DriveReply) (h : NightSound s) :
    NightSound (countReply a f r s) := by
  have hs : NightSound (if r.status = .fault ∧ (s.drive.get a).lastStatus ≠ some .fault then
      cutOwn .driveFault a (s.modDrive a (countedDrive r)) else s.modDrive a (countedDrive r)) :=
    .iff (fun _ => cutOwn_night _ a (h.congr rfl rfl)) fun _ => h.congr rfl rfl
  exact .iff (fun _ => formError_night a f _ hs) fun _ => hs

theorem judgeReply_night (a : Axis) (r : DriveReply) (h : NightSound s) : NightSound (judgeReply a r s) := by
  unfold judgeReply
  split
  · exact h
  · exact .iff (fun _ => countReply_night a _ r h) fun _ => h

theorem takeDriveCharacter_night (a : Axis) (b : Byte) (h : NightSound s) : NightSound (takeDriveCharacter a b s) := by
  unfold takeDriveCharacter
  dsimp only
  split
  · exact h.congr rfl rfl
  · exact judgeReply_night a _ (h.congr rfl rfl)

theorem silenceAxis_night (a : Axis) (h : NightSound s) : NightSound (silenceAxis s a) := by
  unfold silenceAxis
  dsimp only
  split
  · exact h
  · refine .iff (fun _ => cutOwn_night _ a ?_) fun _ => ?_ <;>
      exact .iff (fun _ => h.congr rfl rfl) fun _ => h.congr rfl rfl

theorem silenceCheck_night (h : NightSound s) : NightSound (silenceCheck s) :=
  .fold (fun _ a ht => silenceAxis_night a ht) _ s h

/-! ## Captures (08) -/

/-- A shutter edge or a level judged moves neither the list store nor the target controller. -/
theorem acceptReady_stands (s : State) : (acceptReady s).list = s.list ∧ (acceptReady s).ctrl = s.ctrl := by
  unfold acceptReady
  split
  · exact ⟨rfl, rfl⟩
  · split
    · unfold acceptCandidate
      dsimp only
      split
      · unfold openEdge; split <;> exact ⟨rfl, rfl⟩
      · unfold closeEdge; split <;> exact ⟨rfl, rfl⟩
      all_goals exact ⟨rfl, rfl⟩
    · exact ⟨rfl, rfl⟩

theorem acceptReady_night (h : NightSound s) : NightSound (acceptReady s) :=
  h.congr (acceptReady_stands s).1 (acceptReady_stands s).2

theorem judgeLevel_night (level : Bool) (h : NightSound s) : NightSound (judgeLevel level s) := by
  unfold judgeLevel
  refine .iff (fun _ => h.congr rfl rfl) fun _ => ?_
  split
  · exact .iff (fun _ => h) fun _ => h.congr rfl rfl
  · exact h.congr rfl rfl

theorem changeShutter_night (level : Bool) (h : NightSound s) : NightSound (changeShutter level s) := by
  have hs := judgeLevel_night level (acceptReady_night h)
  exact .iff (fun _ => acceptReady_night hs) fun _ => hs

/-! ## The demand instant (04) -/

theorem reportNodes_night (id n : Nat) : ∀ {s : State}, NightSound s → NightSound (reportNodes id n s) := by
  induction n with
  | zero => exact fun h => h
  | succ n ih => exact fun h => ih (reportNode_night id h)

theorem switchNodes_night (t : Nat) (ns : List TrackNode) :
    ∀ (c : TrackContext) {s : State}, NightSound s → NightSound (switchNodes t ns c s) := by
  induction ns with
  | nil => exact fun _ _ h => h
  | cons n rest ih => exact fun c s h => .iff (fun _ => ih _ (reportNode_night _ (h.congr rfl rfl))) fun _ => h

theorem walkNodes_night (t : Nat) (h : NightSound s) : NightSound (walkNodes t s) := by
  unfold walkNodes
  split
  · exact h
  · exact h
  next c _ =>
    split
    · exact h
    next r _ =>
      have hs := switchNodes_night t r.nodes.tail c h
      unfold readLastTime
      split
      · exact hs
      · split
        · exact hs.congr rfl rfl
        · exact hs
        · exact hs

theorem adoptTrack_night (t id : Nat) (turns : Int) (h : NightSound s) : NightSound (adoptTrack t id turns s) := by
  unfold adoptTrack
  split
  · exact h.congr rfl rfl
  · split
    · exact h.congr rfl rfl
    · exact (reportNodes_night id _ h).congr rfl rfl

theorem adoptSlot_night (t : Nat) (h : NightSound s) : NightSound (adoptSlot t s) := by
  unfold adoptSlot
  split
  · exact h
  · dsimp only
    split
    · exact adoptTrack_night _ _ _ (h.congr rfl rfl)
    · exact h.congr rfl rfl
    · exact h.congr rfl rfl

theorem evaluateBase_night (t : Nat) (h : NightSound s) : NightSound (evaluateBase t s) := by
  unfold evaluateBase
  split
  · exact h
  · exact h
  · exact h.congr rfl rfl

theorem evaluateReference_night (t : Nat) (h : NightSound s) : NightSound (evaluateReference t s).1 := by
  have hw := walkNodes_night t (adoptSlot_night t h)
  have hb := evaluateBase_night t hw
  unfold evaluateReference
  dsimp only
  split
  · exact hw.congr rfl rfl
  · split
    · exact hb.congr rfl rfl
    · exact hb

theorem sendFrames_night (t : Nat) (h : NightSound s) : NightSound (sendFrames t s) :=
  .iff (fun _ => h.congr rfl rfl) fun _ => h

theorem reportRest_night (moved : State) (h : NightSound s) : NightSound (reportRest moved s) :=
  .fold (fun _ a ht => .iff (fun _ => atRest_night a ht) fun _ => ht) _ s h

theorem reportEnding_night (serial : Nat) (ending : Option OutcomeKind) (h : NightSound s) :
    NightSound (reportEnding serial ending s) := by
  unfold reportEnding
  split
  · exact h
  · exact endReport_night _ serial h

theorem reportArrival_night (moved : State) (h : NightSound s) : NightSound (reportArrival moved s) :=
  .iff (fun _ => arrivalReport_night _ (h.congr rfl rfl)) fun _ => h

theorem takeInstant_night (t : Nat) (gust : Bool) (h : NightSound s) : NightSound (takeInstant t gust s) := by
  have he := silenceCheck_night (evaluateReference_night t (s := beginInstant t gust s) (h.congr rfl rfl))
  exact reportArrival_night _ (reportRest_night _ (reportEnding_night _ _ (sendFrames_night t
    (s := moveAxes _) (he.congr rfl rfl))))

theorem demandInstant_night (gust : Bool) (h : NightSound s) : NightSound (demandInstant gust s) :=
  takeInstant_night _ gust (h.congr rfl rfl)

/-! ## Record expiry, start watches, PPS edges (03) -/

/-- Records that expire are removed one after the other; each is still held when its turn comes, its id being its own. -/
theorem expireRecords_night (rs : List TargetRecord) (hn : (rs.map (·.id)).Nodup) (h : NightSound s)
    (hrs : ∀ r ∈ rs, r ∈ s.list.records ∧ r.status = .waiting) : NightSound (expireRecords rs s) := by
  refine .fold (fun t _ ht => raise_night _ (startCheck_night ht)) rs _ ?_
  generalize s.time.clock = now
  induction rs generalizing s with
  | nil => exact h
  | cons r rest ih =>
    obtain ⟨hr, hnrest⟩ := List.nodup_cons.mp hn
    obtain ⟨hmem, hw⟩ := hrs r (by simp)
    refine ih hnrest (removeWithOutcome_night hmem hw h) fun q hq => ⟨?_, (hrs q (by simp [hq])).2⟩
    have hne : q.id ≠ r.id := fun he => hr (List.mem_map.mpr ⟨q, hq, he⟩)
    rw [removeWithOutcome_list, dropRecord_records, logOutcome_records]
    exact List.mem_filter.mpr ⟨(hrs q (by simp [hq])).1, by simpa using hne⟩

/-- The WAITING records that a condition picks expire. -/
theorem expireRecords_filter_night {p : TargetRecord → Bool} (hp : ∀ r, p r = true → r.status = .waiting)
    (h : NightSound s) : NightSound (expireRecords (s.list.records.filter p) s) :=
  expireRecords_night _ (h.list.ids.sublist (List.filter_sublist.map _)) h fun r hr => by
    obtain ⟨hr, hpr⟩ := List.mem_filter.mp hr
    exact ⟨hr, hp r hpr⟩

theorem expireIfDue_night (id : Nat) (h : NightSound s) : NightSound (expireIfDue id s) := by
  unfold expireIfDue
  split
  · exact h
  · exact .iff (fun _ => expireRecords_filter_night (fun r hr => by simpa using (Bool.and_eq_true_iff.mp hr).1) h) fun _ => h

theorem expireAllDue_night (h : NightSound s) : NightSound (expireAllDue s) :=
  expireRecords_filter_night (fun r hr => by simpa using (Bool.and_eq_true_iff.mp hr).1) h

/-- Watches that expire, or are judged afresh, stay watches of the same ids. -/
theorem mapWatches_night {f : StartWatch → StartWatch} (hf : ∀ w, (f w).id = w.id) (h : NightSound s) :
    NightSound (s.modCtrl fun c => { c with watches := c.watches.map f }) :=
  h.setCtrl Iff.rfl rfl (by simp [Function.comp_def, hf])
    { h.timers with }

theorem expireWatch_night (id : Nat) (h : NightSound s) : NightSound (expireWatch id s) :=
  mapWatches_night (fun w => by split <;> rfl) h

theorem judgeWatches_night (h : NightSound s) : NightSound (judgeWatches s) := by
  have hs := mapWatches_night (f := fun w => { w with expired := decide (w.start ≤ s.time.clock) }) (fun _ => rfl) h
  exact .iff (fun _ => startCheck_night hs) fun _ => hs

@[simp] theorem shiftExpiry_isSome (delta : Int) (x : Option Nat) : (shiftExpiry delta x).isSome = x.isSome := by
  cases x <;> rfl

theorem shiftController_night (delta : Int) (h : NightSound s) : NightSound (s.modCtrl (shiftController delta)) := by
  refine h.setCtrl Iff.rfl rfl rfl ⟨?_, ?_, ?_, h.timers.entry⟩ <;> simp only [shiftController, shiftExpiry_isSome]
  · exact h.timers.timeout
  · exact h.timers.hold
  · exact h.timers.dwell

theorem applySet_night (value : Nat) (h : NightSound s) : NightSound (applySet value s) := by
  have hs := (shiftController_night ((value : Int) - s.time.clock)
    (h.congr (t := s.setTime (setClock s.period value s.time)) rfl rfl)).congr
    (t := ((s.setTime (setClock s.period value s.time)).modCtrl (shiftController ((value : Int) - s.time.clock))).setDrive
      (s.drive.map (shiftDrive ((value : Int) - s.time.clock)))) rfl rfl
  exact judgeWatches_night (.iff (fun _ => expireAllDue_night hs) fun _ => hs)

theorem ppsEdge_night (h : NightSound s) : NightSound (ppsEdge s) := by
  unfold ppsEdge
  split
  · exact applySet_night _ h
  · refine .iff (fun _ => h) fun _ => ?_
    unfold disciplineEdge
    exact .iff (fun _ => .iff (fun _ => h.congr rfl rfl) fun _ => h.congr rfl rfl) fun _ => h.congr rfl rfl

/-! ## The site loader (11) -/

theorem runChecks_night (words : List Word) (h : NightSound s) : NightSound (runChecks words s) := by
  unfold runChecks
  split
  · exact judgeStow_night (h.congr rfl rfl)
  · exact h.congr rfl rfl

theorem endRead_night (bytes : List Byte) (h : NightSound s) : NightSound (endRead bytes s) := by
  unfold endRead
  split
  · exact h.congr rfl rfl
  · exact .iff (fun _ => .iff (fun _ => h.congr rfl rfl) fun _ => runChecks_night _ h) fun _ => h.congr rfl rfl

theorem restartPart_night (h : NightSound s) : NightSound (restartPart s) :=
  judgeStow_night (.of_empty { ListSound.reset with entry := h.list.entry } rfl rfl)

end Units

/-! ## The link interface (09) -/

section Serving
variable {P : State → Prop} (hport : ∀ s p f, P s → P (State.modPort s p f)) (hover : ∀ s, P s → P (raise .linkOverrun s))
include hport

/-- A predicate that port changes keep, the refusals of waiting requests keep. -/
theorem sweepRefusals_keeps (p : Port) (n : Nat) {s : State} (h : P s) : P (sweepRefusals p n s) := by
  induction n generalizing s with
  | zero => exact h
  | succ n ih =>
    unfold sweepRefusals
    split
    · exact h
    · split
      · exact h
      · exact ih (hport _ _ _ h)

include hover

/-- A predicate that port changes and an overrun keep, a frame handed on keeps. -/
theorem handOn_keeps (p : Port) (f : Frame) {s : State} (h : P s) : P (handOn p f s) := by
  unfold handOn
  split
  · exact hport _ _ _ h
  · exact hover _ (hport _ _ _ h)

/-- A served request keeps it when its owning block does, which is handed only what the link interface's own judgement
lets pass. -/
theorem serve_keeps {c : Instr} {body : State → Answer} {s : State}
    (hbody : ∀ t p f, c.request = some (p, f) → judgeRequest t p f = none → P t → P (body t).state) (h : P s) :
    P (serve c body s) := by
  unfold serve
  split
  · exact h
  split
  · exact h
  next p f hreq =>
    have harrive : P (arrive p f s) := by
      unfold arrive
      split
      · exact h
      split
      · exact hport _ _ _ h
      · exact handOn_keeps hport hover p f h
    unfold serveFrame
    dsimp only
    split
    · refine sweepRefusals_keeps hport p _ ?_
      unfold carryOut
      split
      · exact hport _ _ _ harrive
      next hj => exact hport _ _ _ (hbody _ p f hreq hj harrive)
    · exact harrive

end Serving

end Sys2Proof.Machine
end

section
/-! The owning blocks' answers, each command, and the step: the list invariants are kept. -/

namespace Sys2Proof.Machine

/-! ## Lengths of the list store's requests (R174, R176) -/

/-- ADD_TARGET carries 1 to 4 nodes. -/
theorem addTarget_lenOk_iff (h : WireHeader) (wire : List WireNode) :
    RequestKind.addTarget.lenOk ((headerBytes h ++ wire.flatMap nodeBytes).length / 2) = true ↔
      1 ≤ wire.length ∧ wire.length ≤ 4 := by
  simp only [RequestKind.lenOk, List.length_append, Laws.Framed.headerBytes_length, Laws.Framed.nodes_length,
    Bool.or_eq_true, beq_iff_eq]
  omega

/-- APPEND_NODES carries 1 to 4 nodes. -/
theorem appendNodes_lenOk_iff (id : Half) (wire : List WireNode) :
    RequestKind.appendNodes.lenOk ((bytes2 id ++ wire.flatMap nodeBytes).length / 2) = true ↔
      1 ≤ wire.length ∧ wire.length ≤ 4 := by
  simp only [RequestKind.lenOk, List.length_append, bytes2, List.length_cons, List.length_nil,
    Laws.Framed.nodes_length, Bool.or_eq_true, beq_iff_eq]
  omega

theorem deleteTarget_lenOk (id : Half) : RequestKind.deleteTarget.lenOk ((bytes2 id).length / 2) = true := by
  simp [bytes2, RequestKind.lenOk]

theorem readList_lenOk (position : Byte) : RequestKind.readList.lenOk ([position, 0].length / 2) = true := by
  simp [RequestKind.lenOk]

theorem readOutcomes_lenOk (after : Word) : RequestKind.readOutcomes.lenOk ((bytes4 after).length / 2) = true := by
  simp [bytes4, RequestKind.lenOk]

/-- A request that the link interface hands on has a LEN of its kind (R169 order 2). -/
theorem lenOk_of_judged {s : State} {p : Port} {f : Frame} {k : RequestKind} (h : judgeRequest s p f = none)
    (hk : requestKindOf f.kind = some k) : k.lenOk f.len = true := by
  unfold judgeRequest at h
  rw [hk] at h
  cases hl : k.lenOk f.len with
  | true => rfl
  | false => simp [hl] at h

/-! ## ADD_TARGET's header (R12 order 3) -/

theorem wrapOf?_eq_none {b : Byte} : wrapOf? b = none ↔ 2 < b.toNat := by
  rcases hb : b.toNat with _ | _ | _ | n <;> simp [wrapOf?, hb]

theorem optionsOf?_eq_none {b : Byte} : optionsOf? b = none ↔ 7 < b.toNat := by
  unfold optionsOf?
  split
  next h => simp only [reduceCtorEq, false_iff]; omega
  next h => simp only [true_iff]; omega

/-- R12 order 3: a field of the header or of a node lies outside its range. -/
def BadValue (image : SiteImage) (now : Nat) (h : WireHeader) (nodes : List TrackNode) : Prop :=
  h.id.toNat = 0 ∨ 3600000 < h.dwell.toNat ∨ 2 < h.wrap.toNat ∨ 7 < h.options.toNat ∨
  (∃ n ∈ nodes, nodeInRange image n = false) ∨ h.expire.toNat ≤ h.start.toNat ∨ h.expire.toNat ≤ now ∨
  h.start.toNat + 300000000 < firstTime nodes ∨ finalTime nodes + 300000000 < h.expire.toNat

theorem toNat_eq_zero_iff {id : Half} : id.toNat = 0 ↔ id = 0 :=
  ⟨fun h => BitVec.eq_of_toNat_eq h, fun h => h ▸ rfl⟩

theorem headerOf?_eq_none_iff {image : SiteImage} {now : Nat} {h : WireHeader} {nodes : List TrackNode} :
    headerOf? image now h nodes = none ↔ BadValue image now h nodes := by
  unfold headerOf? BadValue
  rw [← wrapOf?_eq_none, ← optionsOf?_eq_none, toNat_eq_zero_iff]
  cases wrapOf? h.wrap with
  | none => simp
  | some w =>
    cases optionsOf? h.options with
    | none => simp
    | some o =>
      simp only [ite_eq_right_iff, reduceCtorEq, imp_false, Bool.and_eq_true, timesInRange,
        Classical.not_and_iff_not_or_not, bne_iff_ne, decide_eq_true_eq, Classical.not_not, Nat.not_le, Nat.not_lt,
        List.all_eq_true, Classical.not_forall, Bool.not_eq_true, exists_prop, or_assoc, false_or]
      rfl

theorem headerOf?_eq_some {image : SiteImage} {now : Nat} {h : WireHeader} {nodes : List TrackNode}
    {w : WrapPreference} {o : Options} (hw : wrapOf? h.wrap = some w) (ho : optionsOf? h.options = some o)
    (hb : ¬BadValue image now h nodes) : headerOf? image now h nodes = some (w, o) := by
  rw [← headerOf?_eq_none_iff] at hb
  unfold headerOf? at hb ⊢
  rw [hw, ho] at hb ⊢
  dsimp only at hb ⊢
  split at hb
  next hc => rw [if_pos hc]
  next => exact absurd rfl hb

section Bodies
variable {s : State}

/-- A body that answers by a condition. -/
theorem NightSound.answer {c : Prop} [Decidable c] {a b : Answer} (h : c → NightSound a.state)
    (k : ¬c → NightSound b.state) : NightSound (if c then a else b).state := by
  split
  next hc => exact h hc
  next hc => exact k hc

/-! ## The list store's requests -/

theorem watchRecord_night {r : TargetRecord} (hr : RecordSound r) (hw : r.status = .waiting)
    (hid : ∀ q ∈ s.list.records, q.id ≠ r.id) (hlen : s.list.records.length < listCapacity)
    (hpool : r.nodes.length ≤ freeCount s.list) (h : NightSound s) :
    NightSound (watchRecord r (s.setList (addRecord r s.list))) := by
  have hs : NightSound ((s.setList (addRecord r s.list)).modCtrl fun c =>
      { c with watches := c.watches ++ [⟨r.id, r.start, decide (r.start ≤ s.time.clock)⟩] }) :=
    addRecord_night hr hw hid hlen hpool rfl h
  exact .iff (fun _ => startCheck_night hs) fun _ => hs

theorem addTargetBody_night {header : WireHeader} {wire : List WireNode} (hn : 1 ≤ wire.length ∧ wire.length ≤ 4)
    (h : NightSound s) : NightSound (addTargetBody header wire s).state := by
  unfold addTargetBody
  dsimp only
  split
  · exact h
  split
  · exact h
  next w o hh =>
    refine .answer (fun _ => h) fun hord => .answer (fun _ => h) fun hid => .answer (fun _ => h) fun hlen =>
      .answer (fun _ => h) fun hpool => ?_
    have hsound : RecordSound (newRecord header w o s.list.nextSerial (wire.map nodeOf)) :=
      { id := fun he => nomatch hh.symm.trans (headerOf?_eq_none_iff.mpr (.inl he))
        count := by simp only [newRecord, List.length_map, recordCapacity]; omega
        order := by simpa [newRecord] using hord
        waiting := fun _ => ⟨rfl, rfl, rfl, rfl⟩ }
    refine watchRecord_night hsound rfl ?_ (Nat.lt_of_not_le hlen) (Nat.le_of_not_lt hpool) h
    exact findRecord_none.mp (Option.not_isSome_iff_eq_none.mp hid)

theorem appendNodesBody_night (id : Half) (wire : List WireNode) (h : NightSound s) :
    NightSound (appendNodesBody id wire s).state := by
  unfold appendNodesBody
  dsimp only
  split
  · exact h
  split
  · exact h
  next r hr =>
    refine .answer (fun _ => h) fun hord => .answer (fun _ => h) fun hlen => .answer (fun _ => h) fun hpool => ?_
    simp only [appendInOrder, Bool.not_eq_true', Bool.not_eq_false, Bool.and_eq_true] at hord
    exact appendToRecord_night (findRecord_some hr).1 hord.1 (Nat.le_of_not_lt hlen) (Nat.le_of_not_lt hpool) h

theorem deleteTargetBody_night (id : Half) (h : NightSound s) : NightSound (deleteTargetBody id s).state := by
  unfold deleteTargetBody
  split
  · exact h
  next r hr =>
    split
    · exact h
    next hst =>
      have hw : r.status = .waiting := by cases hs : r.status <;> simp_all
      exact startCheck_night (removeWithoutOutcome_night (findRecord_some hr).1 hw h)

theorem readListBody_night (position : Byte) (h : NightSound s) : NightSound (readListBody position s).state :=
  .answer (fun _ => h) fun _ => h

/-! ## The target controller's requests -/

theorem runBody_night (h : NightSound s) : NightSound (runBody s).state := by
  have hrun : NightSound (match runRefusal s with
      | some code => refuse s code
      | none => acceptSequencing (startCheck (s.setListState .run))).state := by
    split
    · exact h
    · exact startCheck_night (setListState_night _ h)
  unfold runBody
  split
  · exact h
  · exact h
  · exact hrun
  · exact hrun

theorem holdBody_night (h : NightSound s) : NightSound (holdBody s).state := by
  unfold holdBody
  split
  · exact setListState_night _ h
  all_goals exact h

theorem stopBody_night (h : NightSound s) : NightSound (stopBody s).state := by
  unfold stopBody
  split
  · exact stopList_night _ h
  · exact stopList_night _ h
  · exact h
  · exact h

theorem phase_of_not_inactive (h : ¬(!s.targetActive) = true) : s.ctrl.phase ≠ .none :=
  (targetActive_iff s).mp (by cases ha : s.targetActive <;> simp [ha] at h ⊢)

theorem abortBody_night (id : Half) (h : NightSound s) : NightSound (abortBody id s).state :=
  .answer (fun _ => h) fun hactive => .answer (fun _ => h) fun _ =>
    endTarget_night _ h (phase_of_not_inactive hactive)

theorem releaseBody_night (id : Half) (h : NightSound s) : NightSound (releaseBody id s).state :=
  .answer (fun _ => h) fun hactive => .answer (fun _ => h) fun _ => .answer (fun _ => h) fun _ =>
    endTarget_night _ h (phase_of_not_inactive hactive)

/-! ## The other blocks' requests -/

theorem setTimeBody_night (time : SiteTimeWord) (h : NightSound s) : NightSound (setTimeBody time s).state :=
  .answer (fun _ => h) fun _ => .answer (fun _ => h) fun _ => h.congr rfl rfl

theorem readPredictBody_night (lead : Half) (h : NightSound s) : NightSound (readPredictBody lead s).state :=
  .answer (fun _ => h) fun _ => h

theorem guideSampleBody_night (dx dy : Half) (h : NightSound s) : NightSound (guideSampleBody dx dy s).state :=
  .answer (fun _ => h) fun _ => .answer (fun _ => h) fun _ => takeSample_night _ h

theorem pushOffsetBody_night (dx dy drot : Word) (h : NightSound s) : NightSound (pushOffsetBody dx dy drot s).state :=
  .answer (fun _ => h) fun _ => .answer (fun _ => h) fun _ => .answer (fun _ => h) fun _ =>
    .answer (fun _ => h) fun _ => changeStack_night _ _ h

theorem popOffsetBody_night (h : NightSound s) : NightSound (popOffsetBody s).state := by
  unfold popOffsetBody
  split
  · exact h
  split
  · exact h
  · exact changeStack_night _ _ h

theorem clearOffsetsBody_night (h : NightSound s) : NightSound (clearOffsetsBody s).state :=
  .answer (fun _ => h) fun _ => changeStack_night _ _ h

theorem enableAxesBody_night (mask : Byte) (h : NightSound s) : NightSound (enableAxesBody mask s).state :=
  .answer (fun _ => h) fun _ => .answer (fun _ => h) fun _ => .answer (fun _ => h) fun _ =>
    .fold (fun _ a ht => enterReleasing_night a ht) _ s h

theorem disableAxesBody_night (mask : Byte) (h : NightSound s) : NightSound (disableAxesBody mask s).state :=
  .answer (fun _ => h) fun _ => .answer (fun _ => h) fun _ =>
    .fold (f := fun t a => enterStopping a t) (fun _ _ ht => ht.congr rfl rfl) _ s h

theorem setCutMaskBody_night (axis mask : Byte) (h : NightSound s) : NightSound (setCutMaskBody axis mask s).state := by
  unfold setCutMaskBody
  split
  · exact h
  · exact h.congr rfl rfl

theorem setRoutingBody_night (source mask level : Byte) (h : NightSound s) :
    NightSound (setRoutingBody source mask level s).state := by
  unfold setRoutingBody
  split
  · exact h
  split
  · exact h
  · exact h.congr rfl rfl

theorem setThresholdBody_night (p : Port) (threshold : Byte) (h : NightSound s) :
    NightSound (setThresholdBody p threshold s).state :=
  .answer (fun _ => h) fun _ => .answer (fun _ => h) fun _ => h.congr rfl rfl

theorem storeWords_night (start : Nat) (new words : List Word) (length : Option Nat) (h : NightSound s) :
    NightSound (storeWords start new words length s).state :=
  .answer (fun _ => runChecks_night words h) fun _ => h.congr rfl rfl

theorem siteWordsBody_night (start : Half) (new : List Word) (h : NightSound s) :
    NightSound (siteWordsBody start new s).state :=
  .answer (fun _ => h) fun _ => .answer (fun _ => h) fun _ =>
    .answer (fun _ => .answer (fun _ => storeWords_night _ _ _ _ h) fun _ => h.congr rfl rfl)
      fun _ => storeWords_night _ _ _ _ h

theorem restartBody_night (h : NightSound s) : NightSound (restartBody s).state :=
  .answer (fun _ => h) fun _ => restartPart_night h

end Bodies

/-! ## Each command -/

section Commands
variable {s : State}

/-- A served request keeps the list invariants when its block does. -/
theorem serve_night {c : Instr} {body : State → Answer} (hb : ∀ {t}, NightSound t → NightSound (body t).state)
    (h : NightSound s) : NightSound (serve c body s) :=
  serve_keeps (fun _ _ _ ht => ht.congr rfl rfl) (fun _ ht => raise_night _ ht) (fun _ _ _ _ _ ht => hb ht) h

theorem serve_addTarget_night (port : Port) (tag : Byte) (header : WireHeader) (nodes : List WireNode)
    (h : NightSound s) : NightSound (serve (.addTarget port tag header nodes) (addTargetBody header nodes) s) := by
  refine serve_keeps (fun _ _ _ ht => ht.congr rfl rfl) (fun _ ht => raise_night _ ht) (fun t p f hreq hj ht => ?_) h
  obtain ⟨rfl, rfl⟩ := Prod.mk.inj (Option.some.inj hreq)
  have hlen := lenOk_of_judged hj (requestKindOf_number .addTarget)
  exact addTargetBody_night ((addTarget_lenOk_iff header nodes).mp hlen) ht

theorem fresh_night (latch : Bool) (lines : Lines) (queue : List Instr) : NightSound (.fresh latch lines queue) :=
  .of_empty ListSound.reset rfl rfl

theorem takeCharacter_night (p : Port) (b : Byte) (h : NightSound s) : NightSound (takeCharacter p b s) := by
  have hs : ∀ f, NightSound (s.modPort p f) := fun f => h.congr rfl rfl
  unfold takeCharacter
  dsimp only
  split
  · exact hs _
  · exact sweepRefusals_keeps (fun _ _ _ ht => ht.congr rfl rfl) _ _
      (handOn_keeps (fun _ _ _ ht => ht.congr rfl rfl) (fun _ ht => raise_night _ ht) _ _ (hs _))

/-- Every command answers a next state, which is sound when the state before was. -/
theorem exec_night (c : Instr) (h : NightSound s) : ∃ t, exec c s = .next t ∧ NightSound t := by
  cases c with
  | powerOn => exact ⟨_, rfl, fresh_night ..⟩
  | resetAssert => exact ⟨_, rfl, (fresh_night s.loader.latch { s.lines with reset := true } s.pending).congr rfl rfl⟩
  | resetFall => exact ⟨_, rfl, fresh_night ..⟩
  | configMemoryReadEnd bytes => exact ⟨_, rfl, .iff (fun _ => endRead_night bytes h) fun _ => h⟩
  | portRateChange => exact ⟨_, rfl, .iff (fun _ => h.congr rfl rfl) fun _ => h⟩
  | linkCharacter port char => exact ⟨_, rfl, .iff (fun _ => h) fun _ => takeCharacter_night port char h⟩
  | linkGapExpiry => exact ⟨_, rfl, .iff (fun _ => h) fun _ => h.congr rfl rfl⟩
  | replySent => exact ⟨_, rfl, .iff (fun _ => h) fun _ => h.congr rfl rfl⟩
  | addTarget port tag header nodes => exact ⟨_, rfl, serve_addTarget_night port tag header nodes h⟩
  | appendNodes _ _ id nodes => exact ⟨_, rfl, serve_night (appendNodesBody_night id nodes) h⟩
  | deleteTarget _ _ id => exact ⟨_, rfl, serve_night (deleteTargetBody_night id) h⟩
  | readList _ _ position => exact ⟨_, rfl, serve_night (readListBody_night position) h⟩
  | readOutcomes => exact ⟨_, rfl, serve_night (fun ht => ht) h⟩
  | run => exact ⟨_, rfl, serve_night runBody_night h⟩
  | hold => exact ⟨_, rfl, serve_night holdBody_night h⟩
  | stop => exact ⟨_, rfl, serve_night stopBody_night h⟩
  | abort _ _ id => exact ⟨_, rfl, serve_night (abortBody_night id) h⟩
  | release _ _ id => exact ⟨_, rfl, serve_night (releaseBody_night id) h⟩
  | readSequence => exact ⟨_, rfl, serve_night (fun ht => ht) h⟩
  | setTime _ _ time => exact ⟨_, rfl, serve_night (setTimeBody_night time) h⟩
  | readTime => exact ⟨_, rfl, serve_night (fun ht => ht) h⟩
  | readPointing => exact ⟨_, rfl, serve_night (fun ht => ht) h⟩
  | readPredict _ _ lead => exact ⟨_, rfl, serve_night (readPredictBody_night lead) h⟩
  | forceGust => exact ⟨_, rfl, serve_night (fun ht => ht.congr rfl rfl) h⟩
  | clearForce => exact ⟨_, rfl, serve_night (fun ht => ht.congr rfl rfl) h⟩
  | guideSample _ _ dx dy => exact ⟨_, rfl, serve_night (guideSampleBody_night dx dy) h⟩
  | guideReset => exact ⟨_, rfl, serve_night (fun ht => ht.congr rfl rfl) h⟩
  | pushOffset _ _ dx dy drot => exact ⟨_, rfl, serve_night (pushOffsetBody_night dx dy drot) h⟩
  | popOffset => exact ⟨_, rfl, serve_night popOffsetBody_night h⟩
  | clearOffsets => exact ⟨_, rfl, serve_night clearOffsetsBody_night h⟩
  | readCorrections => exact ⟨_, rfl, serve_night (fun ht => ht) h⟩
  | enableAxes _ _ mask => exact ⟨_, rfl, serve_night (enableAxesBody_night mask) h⟩
  | disableAxes _ _ mask => exact ⟨_, rfl, serve_night (disableAxesBody_night mask) h⟩
  | setCutMask _ _ axis mask => exact ⟨_, rfl, serve_night (setCutMaskBody_night axis mask) h⟩
  | readAxes => exact ⟨_, rfl, serve_night (fun ht => ht) h⟩
  | readCaptures => exact ⟨_, rfl, serve_night (fun ht => ht.congr rfl rfl) h⟩
  | readStatus => exact ⟨_, rfl, serve_night (fun ht => ht) h⟩
  | readNotices => exact ⟨_, rfl, serve_night (fun ht => ht.congr rfl rfl) h⟩
  | setRouting _ _ source mask level => exact ⟨_, rfl, serve_night (setRoutingBody_night source mask level) h⟩
  | setThreshold port _ threshold => exact ⟨_, rfl, serve_night (setThresholdBody_night port threshold) h⟩
  | siteWords _ _ start words => exact ⟨_, rfl, serve_night (siteWordsBody_night start words) h⟩
  | restart => exact ⟨_, rfl, serve_night restartBody_night h⟩
  | ppsEdge => exact ⟨_, rfl, .iff (fun _ => h) fun _ => ppsEdge_night h⟩
  | ppsHoldEnd => exact ⟨_, rfl, .iff (fun _ => h.congr rfl rfl) fun _ => h⟩
  | pulseWatchExpiry => exact ⟨_, rfl, .iff (fun _ => h.congr rfl rfl) fun _ => h⟩
  | clockAtLargestValue => exact ⟨_, rfl, .iff (fun _ => h.congr rfl rfl) fun _ => h⟩
  | demandInstant gust =>
    exact ⟨_, rfl, .iff (fun _ => demandInstant_night gust (h.congr rfl rfl)) fun _ => h.congr rfl rfl⟩
  | driveReply axis chars =>
    exact ⟨_, rfl, .iff (fun _ => h) fun _ => .fold (fun _ b ht => takeDriveCharacter_night axis b ht) chars s h⟩
  | graceTimerExpiry axis => exact ⟨_, rfl, .iff (fun _ => followingRise_night axis h) fun _ => h⟩
  | cutSourceRise => exact ⟨_, rfl, .iff (fun _ => cutByLine_night _ (h.congr rfl rfl)) fun _ => h.congr rfl rfl⟩
  | brakeTimerExpiryReleasing axis => exact ⟨_, rfl, .iff (fun _ => enterOn_night axis h) fun _ => h⟩
  | brakeTimerExpirySetting axis => exact ⟨_, rfl, .iff (fun _ => enterOff_night axis h) fun _ => h⟩
  | startWatchExpiry => exact ⟨_, rfl, .iff (fun _ => startCheck_night (expireWatch_night _ h)) fun _ => h⟩
  | recordExpiry => exact ⟨_, rfl, .iff (fun _ => h) fun _ => expireIfDue_night _ h⟩
  | settleHoldExpiry =>
    refine ⟨_, rfl, .iff (fun hc => enterTrack_night h ?_) fun _ => h⟩
    simp only [settleHoldDue, Bool.and_eq_true, beq_iff_eq] at hc
    exact hc.2.2
  | settleTimeoutExpiry =>
    refine ⟨_, rfl, .iff (fun hc => endTarget_night _ h fun hp => ?_) fun _ => h⟩
    simp [settleTimeoutDue, hp] at hc
  | dwellExpiry =>
    refine ⟨_, rfl, .iff (fun hc => endTarget_night _ h fun hp => ?_) fun _ => h⟩
    simp [dwellDue, hp] at hc
  | stowRise => exact ⟨_, rfl, .iff (fun _ => stowRise_night (h.congr rfl rfl)) fun _ => h.congr rfl rfl⟩
  | stowFall => exact ⟨_, rfl, .iff (fun _ => stowFall_night (h.congr rfl rfl)) fun _ => h.congr rfl rfl⟩
  | domeReadyChange level =>
    have hs : NightSound (s.setLines { s.lines with domeReady := level }) := h.congr rfl rfl
    exact ⟨_, rfl, .iff (fun _ => .iff (fun hc => judgeSettle_night hs hc.1) fun _ => hs) fun _ => hs⟩
  | shutterChange level =>
    exact ⟨_, rfl, .iff (fun _ => h.congr rfl rfl) fun _ => changeShutter_night level (h.congr rfl rfl)⟩
  | shutterCandidateAccepted => exact ⟨_, rfl, .iff (fun _ => h) fun _ => acceptReady_night h⟩

theorem idle_night (h : NightSound s) : NightSound (idle s) := by
  unfold idle
  refine .iff (fun _ => h) fun _ => ?_
  split
  · exact (judgeLevel_night s.lines.shutter h).congr rfl rfl
  · exact h.congr rfl rfl

theorem step_night (h : NightSound s) : ∃ t, step s = .next t ∧ NightSound t := by
  unfold step
  split
  · exact ⟨_, rfl, idle_night h⟩
  · exact exec_night _ (h.congr rfl rfl)

end Commands

end Sys2Proof.Machine

namespace Sys2Proof.Proofs
open Sys2Proof.Machine

/-- Settles O55: a step keeps `NightSound`, the four invariants as one predicate. -/
theorem listInvariantsAreKept : Obligations.ListInvariantsAreKept := by
  intro s t hlist hphase hwatches htimers hstep
  obtain ⟨u, hu, hsound⟩ := step_night ⟨hlist, hphase, hwatches, htimers⟩
  obtain rfl : u = t := by rw [hu] at hstep; exact Host.Outcome.next.inj hstep
  exact ⟨hsound.list, hsound.phase, hsound.watches, hsound.timers⟩

end Sys2Proof.Proofs
end

section
/-! What a request that its port takes answers, and the list store's own requests and expiry (01). -/

namespace Sys2Proof.Machine

/-! ## A request that its port takes: refused, accepted, not configured (R168, R169) -/

section Requests
variable {c : Instr} {k : RequestKind} {p : Port} {tag : Byte} {payload : List Byte} {body : State → Answer} {s : State}

/-- Its owning block refuses it. -/
theorem serve_refuses {code : Code} (hr : c.request = some (p, requestFrame k tag payload))
    (hl : k.lenOk (payload.length / 2) = true) (h : Served k p s)
    (hb : body (received p (requestFrame k tag payload) s) = refuse (received p (requestFrame k tag payload) s) code) :
    Host.Outcome.next (serve c body s) = refusedBy k p tag payload code s := by
  rw [serve_served hr hl h (by rw [hb]; rfl), hb]
  rfl

/-- Its owning block accepts it, with an effect that stands clear of the links. -/
theorem serve_accepts {data : ReplyData} {effect : State → State}
    (hr : c.request = some (p, requestFrame k tag payload)) (hl : k.lenOk (payload.length / 2) = true)
    (h : Served k p s)
    (hb : body (received p (requestFrame k tag payload) s) =
      accept (effect (received p (requestFrame k tag payload) s)) data)
    (hlink : (effect (received p (requestFrame k tag payload) s)).link =
      (received p (requestFrame k tag payload) s).link) :
    Host.Outcome.next (serve c body s) = acceptedBy k p tag payload data effect s := by
  rw [serve_served hr hl h (by rw [hb]; exact hlink), hb]
  rfl

/-- Before VALID the link interface refuses a request that needs a right (R169 order 3). -/
theorem serve_unconfigured (hr : c.request = some (p, requestFrame k tag payload))
    (hl : k.lenOk (payload.length / 2) = true) (hn : needsRight k = true) (h : Unconfigured p s) :
    Host.Outcome.next (serve c body s) = refusedBy k p tag payload .notConfigured s := by
  obtain ⟨hreset, ⟨hwait, hfree⟩, hvalid⟩ := h
  have harrive : arrive p (requestFrame k tag payload) s = received p (requestFrame k tag payload) s := by
    have hm : ¬requestLenMax < (requestFrame k tag payload).len := Nat.not_lt.mpr (lenOk_le hl)
    simp [arrive, isOldest, hwait, hm, handOn, hfree, received]
  have hold : isOldest p (requestFrame k tag payload) (received p (requestFrame k tag payload) s) = true := by
    simp [isOldest, oldestWaiting_append _ hwait, sameRequest_self]
  have hjudge : judgeRequest (received p (requestFrame k tag payload) s) p (requestFrame k tag payload) =
      some .notConfigured := by
    have hv : (received p (requestFrame k tag payload) s).isValid = false := hvalid
    have hlen : k.lenOk (requestFrame k tag payload).len = true := hl
    simp [judgeRequest, requestFrame, requestKindOf_number, hn] at hlen hv ⊢
    simp [hlen, hv]
  have hres : s.heldInReset = false := hreset
  simp only [serve, hres, hr, serveFrame, harrive, hold, if_true, carryOut, hjudge, Bool.false_eq_true, if_false]
  rw [sweepRefusals_done]
  · rfl
  · simp [markCarried_append _ hwait, oldestWaiting_carried _ hwait]

end Requests

/-! ## ADD_TARGET (R11, R12) -/

section AddTarget
variable {h : WireHeader} {wire : List WireNode} {s : State}

theorem addTargetBody_timeUnset (ht : s.time.status = .unset) : addTargetBody h wire s = refuse s .timeUnset := by
  simp [addTargetBody, ht]

theorem addTargetBody_badValue (ht : s.time.status ≠ .unset)
    (hb : BadValue s.image s.time.clock h (wire.map nodeOf)) : addTargetBody h wire s = refuse s .badValue := by
  simp [addTargetBody, ht, headerOf?_eq_none_iff.mpr hb]

/-- With the time set and every field in range, what is left to judge is the order of the nodes and the room (R12). -/
theorem addTargetBody_inRange (ht : s.time.status ≠ .unset) {w : WrapPreference} {o : Options}
    (hh : headerOf? s.image s.time.clock h (wire.map nodeOf) = some (w, o)) :
    addTargetBody h wire s =
      if inOrder (wire.map nodeOf) = false then refuse s .nodeOrder
      else if ∃ r ∈ s.list.records, r.id = h.id.toNat then refuse s .idInUse
      else if 64 ≤ s.list.records.length then refuse s .listFull
      else if freeCount s.list < wire.length then refuse s .poolFull
      else acceptTarget (newRecord h w o s.list.nextSerial (wire.map nodeOf)) s := by
  have huse : (findRecord h.id.toNat s.list.records).isSome = true ↔ ∃ r ∈ s.list.records, r.id = h.id.toNat := by
    simp [findRecord]
  simp only [addTargetBody, ht, if_false, hh, Bool.not_eq_true', huse, listCapacity, List.length_map]

/-- The start check is taken at once when the start time of a record that joins has been reached (R11, R30). -/
theorem watchRecord_eq (r : TargetRecord) (s : State) :
    watchRecord r s =
      if r.start ≤ s.time.clock then
        startCheck (s.modCtrl fun c => { c with watches := c.watches ++ [⟨r.id, r.start, decide (r.start ≤ s.time.clock)⟩] })
      else s.modCtrl fun c => { c with watches := c.watches ++ [⟨r.id, r.start, decide (r.start ≤ s.time.clock)⟩] } := by
  by_cases hr : r.start ≤ s.time.clock <;> simp [watchRecord, hr]

end AddTarget

/-! ## APPEND_NODES (R14, R15) -/

section AppendNodes
variable {id : Half} {wire : List WireNode} {s : State}

theorem appendNodesBody_badValue (h : ∃ n ∈ wire.map nodeOf, nodeInRange s.image n = false) :
    appendNodesBody id wire s = refuse s .badValue := by
  have hall : (wire.map nodeOf).all (nodeInRange s.image) = false := List.all_eq_false.mpr (by simpa using h)
  simp [appendNodesBody, hall]

theorem appendNodesBody_noSuchTarget (h : (wire.map nodeOf).all (nodeInRange s.image) = true)
    (hr : ∀ r ∈ s.list.records, r.id ≠ id.toNat) : appendNodesBody id wire s = refuse s .noSuchTarget := by
  simp [appendNodesBody, h, findRecord_none.mpr hr]

theorem appendInOrder_iff {now : Nat} {r : TargetRecord} {nodes : List TrackNode} :
    appendInOrder now r nodes = true ↔
      inOrderFrom (finalTime r.nodes) nodes = true ∧ (r.status = .active → now < firstTime nodes) := by
  cases hs : r.status <;> simp [appendInOrder, lastTime, finalTime, hs]

/-- With the record found and the nodes in range, what is left to judge is the order of the nodes and the room (R15). -/
theorem appendNodesBody_found {r : TargetRecord} (h : (wire.map nodeOf).all (nodeInRange s.image) = true)
    (hr : findRecord id.toNat s.list.records = some r) :
    appendNodesBody id wire s =
      if appendInOrder s.time.clock r (wire.map nodeOf) = false then refuse s .nodeOrder
      else if 16 < r.nodes.length + (wire.map nodeOf).length then refuse s .recordFull
      else if freeCount s.list < (wire.map nodeOf).length then refuse s .poolFull
      else
        accept (s.setList (appendToRecord r.id (wire.map nodeOf) s.list))
          (.appended (r.nodes.length + (wire.map nodeOf).length)
            (freeCount (appendToRecord r.id (wire.map nodeOf) s.list))) := by
  simp only [appendNodesBody, h, Bool.not_true, Bool.false_eq_true, if_false, hr, Bool.not_eq_true', recordCapacity]

end AppendNodes

/-! ## DELETE_TARGET (R17) -/

theorem noteEmpty_eq (s : State) : noteEmpty s = if s.list.records = [] then raise .listEmpty s else s := by
  simp [noteEmpty]

theorem deleteTargetBody_noSuchTarget {id : Half} {s : State} (hr : ∀ r ∈ s.list.records, r.id ≠ id.toNat) :
    deleteTargetBody id s = refuse s .noSuchTarget := by
  simp [deleteTargetBody, findRecord_none.mpr hr]

theorem deleteTargetBody_targetActive {id : Half} {s : State} {r : TargetRecord}
    (hr : findRecord id.toNat s.list.records = some r) (hs : r.status = .active) :
    deleteTargetBody id s = refuse s .targetActive := by
  simp [deleteTargetBody, hr, hs]

theorem deleteTargetBody_waiting {id : Half} {s : State} {r : TargetRecord}
    (hr : findRecord id.toNat s.list.records = some r) (hs : r.status = .waiting) :
    deleteTargetBody id s =
      accept (startCheck (removeWithoutOutcome id.toNat s)) (.deleted (freeCount (dropRecord id.toNat s.list))) := by
  simp [deleteTargetBody, hr, hs, (findRecord_some hr).2, removeWithoutOutcome, dropWatch]

/-! ## READ_LIST (R22) -/

theorem numbered_records (l : List TargetRecord) : ∀ i, (numbered i l).map (·.2) = l := by
  induction l with
  | nil => exact fun _ => rfl
  | cons r rest ih => exact fun i => by rw [numbered, List.map_cons, ih]

theorem numbered_positions (l : List TargetRecord) : ∀ i, (numbered i l).map (·.1) = List.range' i l.length := by
  induction l with
  | nil => exact fun _ => rfl
  | cons r rest ih => exact fun i => by rw [numbered, List.map_cons, ih, List.length_cons, List.range'_succ]

theorem numbered_length (i : Nat) (l : List TargetRecord) : (numbered i l).length = l.length := by
  rw [← List.length_map (f := (·.2)), numbered_records]

/-! ## RECORD_EXPIRY (R19, R20) -/

/-- A record taken out with an outcome: all of its removal but LIST_EMPTY. -/
def takeOut (r : TargetRecord) (outcome : OutcomeKind) (endTime tracked : Nat) (s : State) : State :=
  dropWatch r.id (s.setList (dropRecord r.id (logOutcome r outcome endTime tracked s.list)))

theorem removeWithOutcome_eq (r : TargetRecord) (o : OutcomeKind) (e k : Nat) (s : State) :
    removeWithOutcome r o e k s = noteEmpty (takeOut r o e k s) := rfl

/-- The log and the next entry serial after an EXPIRED entry for a record (R23, R24). -/
def logExpired (now : Nat) (l : List OutcomeEntry × Nat) (r : TargetRecord) : List OutcomeEntry × Nat :=
  (placeEntry ⟨l.2, r.id, .expired, none, now, 0, 0, false⟩ (if l.1.length < 32 then l.1 else l.1.tail),
   if l.2 < 4294967295 then l.2 + 1 else 1)

/-- The id is none of those of the records that leave. -/
def stays (gone : List TargetRecord) (id : Nat) : Bool := gone.all fun q => q.id != id

/-- The state after records have expired, but for LIST_EMPTY and what follows their removal. -/
def afterExpiries (now : Nat) (gone : List TargetRecord) (s : State) : State :=
  let logged := gone.foldl (logExpired now) (s.list.log, s.list.nextEntry)
  { s with
    list :=
      { s.list with
        records := s.list.records.filter fun q => stays gone q.id
        changeCount := (s.list.changeCount + gone.length) % 65536
        log := logged.1
        nextEntry := logged.2 }
    ctrl := { s.ctrl with watches := s.ctrl.watches.filter fun w => stays gone w.id } }

/-- Removal by removal, LIST_EMPTY comes at most once, with the last: until then a record that is still to leave is held. -/
theorem foldl_removeWithOutcome {o : OutcomeKind} {e k : Nat} {gone : List TargetRecord} (hne : gone ≠ [])
    (hn : (gone.map (·.id)).Nodup) : ∀ {s : State}, (∀ r ∈ gone, r ∈ s.list.records) →
    gone.foldl (fun t r => removeWithOutcome r o e k t) s = noteEmpty (gone.foldl (fun t r => takeOut r o e k t) s) := by
  induction gone with
  | nil => exact absurd rfl hne
  | cons r rest ih =>
    intro s hs
    obtain ⟨hr, hnrest⟩ := List.nodup_cons.mp hn
    have hheld : ∀ q ∈ rest, q ∈ (takeOut r o e k s).list.records := fun q hq =>
      List.mem_filter.mpr ⟨hs q (by simp [hq]), by
        simpa using fun he : q.id = r.id => hr (List.mem_map.mpr ⟨q, hq, he⟩)⟩
    cases rest with
    | nil => rfl
    | cons q rest =>
      have hstill : noteEmpty (takeOut r o e k s) = takeOut r o e k s := by
        rw [noteEmpty_eq, if_neg (List.ne_nil_of_mem (hheld q (by simp)))]
      have hstep : removeWithOutcome r o e k s = takeOut r o e k s := (removeWithOutcome_eq ..).trans hstill
      exact (congrArg (List.foldl _ · (q :: rest)) hstep).trans (ih (by simp) hnrest hheld)

/-- What the removals leave, when the records that expire are WAITING and so have their run-time fields at their initial
values (R2). -/
theorem foldl_takeOut_expired {now : Nat} {gone : List TargetRecord}
    (hw : ∀ r ∈ gone, r.late = false ∧ r.actualStart = none ∧ r.guideCount = 0) :
    ∀ {s : State}, s.list.changeCount ≤ 65535 →
      gone.foldl (fun t r => takeOut r .expired now 0 t) s = afterExpiries now gone s := by
  induction gone with
  | nil =>
    intro s hc
    have hmod : s.list.changeCount % 65536 = s.list.changeCount := Nat.mod_eq_of_lt (by omega)
    have hrecords : s.list.records.filter (fun q => stays [] q.id) = s.list.records :=
      List.filter_eq_self.mpr fun _ _ => rfl
    have hwatches : s.ctrl.watches.filter (fun w => stays [] w.id) = s.ctrl.watches :=
      List.filter_eq_self.mpr fun _ _ => rfl
    simp only [List.foldl_nil, afterExpiries, List.length_nil, Nat.add_zero, hrecords, hwatches, hmod]
  | cons r rest ih =>
    intro s hc
    obtain ⟨hlate, hstart, hguide⟩ := hw r (by simp)
    have hlog : takeOut r .expired now 0 s = { s with
        list :=
          { s.list with
            records := s.list.records.filter fun q => q.id != r.id
            changeCount := (s.list.changeCount + 1) % 65536
            log := (logExpired now (s.list.log, s.list.nextEntry) r).1
            nextEntry := (logExpired now (s.list.log, s.list.nextEntry) r).2 }
        ctrl := { s.ctrl with watches := s.ctrl.watches.filter fun w => w.id != r.id } } := by
      simp only [takeOut, logOutcome, hlate, hstart, hguide]
      rfl
    have hstays : ∀ id, stays (r :: rest) id = (stays rest id && id != r.id) := fun id => by
      simp [stays, Bool.and_comm, bne_comm]
    have hcount : ((s.list.changeCount + 1) % 65536 + rest.length) % 65536 =
        (s.list.changeCount + (rest.length + 1)) % 65536 := by omega
    rw [List.foldl_cons, ih (fun q hq => hw q (by simp [hq])) (by rw [hlog]; dsimp only; omega), hlog]
    simp only [afterExpiries, List.filter_filter, hstays, hcount, List.length_cons, List.foldl_cons]

end Sys2Proof.Machine

namespace Sys2Proof.Proofs
open Sys2Proof.Machine

/-- Settles O19: out of range the header reads as none, and in range the body is a chain of the conditions left, in order. -/
theorem addTargetRefusesInOrder : Obligations.AddTargetRefusesInOrder := by
  intro p tag h wire s h1 h4 nodes refuses badValue inUse
  have hl := (addTarget_lenOk_iff h wire).mpr ⟨h1, h4⟩
  refine ⟨fun hu => serve_unconfigured rfl hl rfl hu,
    fun hs ht => serve_refuses rfl hl hs (addTargetBody_timeUnset ht), fun hs ht => ?_⟩
  let s1 := received p (requestFrame .addTarget tag (headerBytes h ++ wire.flatMap nodeBytes)) s
  have hin : ¬badValue → ∃ w o, headerOf? s1.image s1.time.clock h (wire.map nodeOf) = some (w, o) := fun hb => by
    obtain ⟨⟨w, o⟩, hh⟩ := Option.ne_none_iff_exists'.mp (mt headerOf?_eq_none_iff.mp hb)
    exact ⟨w, o, hh⟩
  have hordered : inOrder nodes = true → ¬inOrder nodes = false := fun ho => by simp [ho]
  refine ⟨fun hb => serve_refuses rfl hl hs (addTargetBody_badValue ht hb), fun hb ho => ?_, fun hb ho hu => ?_,
    fun hb ho hu hf => ?_, fun hb ho hu hf hp => ?_⟩ <;> obtain ⟨w, o, hh⟩ := hin hb <;>
    refine serve_refuses rfl hl hs ((addTargetBody_inRange (s := s1) ht hh).trans ?_)
  · exact if_pos ho
  · exact (if_neg (hordered ho)).trans (if_pos hu)
  · exact (if_neg (hordered ho)).trans ((if_neg hu).trans (if_pos hf))
  · have hpool : freeCount s.list < wire.length := by simpa [nodes] using hp
    exact (if_neg (hordered ho)).trans ((if_neg hu).trans ((if_neg (Nat.not_le.mpr hf)).trans (if_pos hpool)))

/-- Settles O18: no condition of R12 holds, so the body's chain ends in the addition. -/
theorem addTargetJoinsTheList : Obligations.AddTargetJoinsTheList := by
  intro p tag h wire w o s hs h1 h4 nodes ht hid hdwell hw ho hrange hse hce hfirst hfinal hord huse hlen hpool
    r list joined
  have hb : ¬BadValue s.image s.time.clock h nodes := by
    have hwrap : ¬2 < h.wrap.toNat := by simp [← wrapOf?_eq_none, hw]
    have hopt : ¬7 < h.options.toNat := by simp [← optionsOf?_eq_none, ho]
    have hnodes : ¬∃ n ∈ nodes, nodeInRange s.image n = false := by simpa using hrange
    simp only [BadValue, hnodes, false_or]
    omega
  let s1 := received p (requestFrame .addTarget tag (headerBytes h ++ wire.flatMap nodeBytes)) s
  have hbody : addTargetBody h wire s1 = acceptTarget (newRecord h w o s1.list.nextSerial nodes) s1 := by
    have hpool' : ¬freeCount s.list < wire.length := by simpa [nodes] using hpool
    exact (addTargetBody_inRange (s := s1) ht (headerOf?_eq_some hw ho hb)).trans
      ((if_neg (by simpa using hord)).trans ((if_neg fun ⟨q, hq, he⟩ => huse q hq he).trans
        ((if_neg (Nat.not_le.mpr hlen)).trans (if_neg hpool'))))
  refine serve_accepts rfl ((addTarget_lenOk_iff h wire).mpr ⟨h1, h4⟩) hs (hbody.trans ?_) ?_
  · rw [acceptTarget, watchRecord_eq]
    rfl
  · exact ((startCheck_work _).iff (.refl _)).link

/-- Settles O20, along the chain of conditions of `appendNodesBody_found`. -/
theorem appendNodesAddsAfterTheLastNode : Obligations.AppendNodesAddsAfterTheLastNode := by
  intro p tag id wire s h1 h4 nodes payload refuses
  have hl := (appendNodes_lenOk_iff id wire).mpr ⟨h1, h4⟩
  let s1 := received p (requestFrame .appendNodes tag payload) s
  refine ⟨fun hu => serve_unconfigured rfl hl rfl hu,
    fun hs hb => serve_refuses rfl hl hs (appendNodesBody_badValue hb), fun hs hb =>
    ⟨fun hr => serve_refuses rfl hl hs (appendNodesBody_noSuchTarget hb hr), ?_⟩⟩
  intro r hr ordered
  have hbody := appendNodesBody_found (s := s1) hb hr
  have hordered : ordered → ¬appendInOrder s.time.clock r nodes = false := fun ho => by
    rw [appendInOrder_iff.mpr ho]; simp
  refine ⟨fun ho => ?_, fun ho hf => ?_, fun ho hf hp => ?_, fun ho hf hp => ?_⟩
  · exact serve_refuses rfl hl hs (hbody.trans (if_pos (Bool.eq_false_iff.mpr (mt appendInOrder_iff.mp ho))))
  · exact serve_refuses rfl hl hs (hbody.trans ((if_neg (hordered ho)).trans (if_pos hf)))
  · exact serve_refuses rfl hl hs
      (hbody.trans ((if_neg (hordered ho)).trans ((if_neg (Nat.not_lt.mpr hf)).trans (if_pos hp))))
  · refine serve_accepts rfl hl hs (hbody.trans ((if_neg (hordered ho)).trans
      ((if_neg (Nat.not_lt.mpr hf)).trans ((if_neg (Nat.not_lt.mpr hp)).trans ?_)))) rfl
    rfl

/-- Settles O21, by the status of the record found. -/
theorem deleteTargetRemovesAWaitingRecord : Obligations.DeleteTargetRemovesAWaitingRecord := by
  intro p tag id s
  have hl := deleteTarget_lenOk id
  refine ⟨fun hu => serve_unconfigured rfl hl rfl hu,
    fun hs hr => serve_refuses rfl hl hs (deleteTargetBody_noSuchTarget hr), fun hs r hr =>
    ⟨fun ha => serve_refuses rfl hl hs (deleteTargetBody_targetActive hr ha), fun hw => ?_⟩⟩
  intro list removed
  let s1 := received p (requestFrame .deleteTarget tag (bytes2 id)) s
  refine serve_accepts rfl hl hs ((deleteTargetBody_waiting (s := s1) hr hw).trans ?_) ?_
  · rw [removeWithoutOutcome, noteEmpty_eq]
    rfl
  · exact (TargetWork.trans ((raise_work ..).iff (.refl _)) (startCheck_work _)).link

/-- Settles O22: removal by removal the state is that of `afterExpiries`, and LIST_EMPTY comes with the last. -/
theorem recordExpiryLogsAndRemoves : Obligations.RecordExpiryLogsAndRemoves := by
  intro id r s hreset hr hw hdue hsound gone kept logged list t
  have hmem : ∀ q ∈ gone, q ∈ s.list.records ∧ q.status = .waiting := fun q hq => by
    have hq := List.mem_filter.mp hq
    exact ⟨hq.1, by simpa using (Bool.and_eq_true_iff.mp hq.2).1⟩
  have hne : gone ≠ [] := List.ne_nil_of_mem (List.mem_filter.mpr ⟨(findRecord_some hr).1, by simp [hw]⟩)
  have hn : (gone.map (·.id)).Nodup := hsound.ids.sublist (List.filter_sublist.map _)
  have hinit : ∀ q ∈ gone, q.late = false ∧ q.actualStart = none ∧ q.guideCount = 0 := fun q hq => by
    obtain ⟨hq, hwq⟩ := hmem q hq
    obtain ⟨hlate, hstart, -, hguide⟩ := (hsound.records q hq).waiting hwq
    exact ⟨hlate, hstart, hguide⟩
  have hremoved : gone.foldl (fun u q => removeWithOutcome q .expired s.time.clock 0 u) s =
      if list.records = [] then raise .listEmpty t else t := by
    rw [foldl_removeWithOutcome hne hn fun q hq => (hmem q hq).1, foldl_takeOut_expired hinit hsound.change, noteEmpty_eq]
    rfl
  have hexpires : expireIfDue id.toNat s = expireRecords gone s := by
    simp [expireIfDue, hr, expiryDue, hw, hdue, expiringAt, gone]
  have hexec : exec (.recordExpiry id) s = .next (expireIfDue id.toNat s) :=
    congrArg Host.Outcome.next (if_neg (by simp [State.heldInReset, hreset]))
  rw [hexec, hexpires, expireRecords, hremoved]

/-- Settles O23; `numbered` gives each record its place in the list. -/
theorem listReadsAnswerWhatIsHeld : Obligations.ListReadsAnswerWhatIsHeld := by
  refine ⟨fun p tag position s hs => ⟨fun hp => serve_refuses rfl (readList_lenOk position) hs (if_pos hp), fun hp => ?_⟩,
    fun p tag after s hs => serve_accepts rfl (readOutcomes_lenOk after) hs rfl rfl⟩
  refine ⟨numbered position.toNat ((s.list.records.drop position.toNat).take 8), numbered_records .., ?_,
    serve_accepts rfl (readList_lenOk position) hs (if_neg (Nat.not_lt.mpr hp)) rfl⟩
  rw [numbered_positions, numbered_length, List.range'_eq_map_range]

/-- Settles O5: the list invariants hold of any state afresh, the others are read off the power-on values. -/
theorem resetMeetsTheInvariants : Obligations.ResetMeetsTheInvariants := by
  have h : NightSound State.reset := fresh_night ..
  have hlinks : LinksSound State.reset := fun p => by cases p <;> exact ⟨by decide, by decide, by decide⟩
  have hinert : InertUntilValid State.reset := fun _ =>
    { list := by decide
      axes := fun a => by cases a <;> decide
      rights := fun p => by cases p <;> rfl
      captures := rfl
      notices := fun src => by cases src <;> rfl
      quiet := fun p => by cases p <;> decide }
  exact ⟨h.list, h.phase, h.watches, h.timers, fun a => by cases a <;> rfl, fun a => by cases a <;> decide,
    fun a => by cases a <;> decide, ⟨fun a => by cases a <;> decide, rfl, rfl, rfl⟩, ⟨rfl, rfl, rfl⟩, hlinks,
    fun p => by cases p <;> decide, ⟨by decide, by decide, by decide⟩, ⟨by decide, fun _ hv => by cases hv⟩, hinert⟩

end Sys2Proof.Proofs
end

section
/-! The wrap choice (R33): the candidates that a preference chooses from, and the one it chooses. -/

namespace Sys2Proof.Machine

/-! ## The preferred one of several candidates -/

/-- Of two azimuths the one that NEAREST takes: the closer to the demand, or at the same distance the lower (R33). -/
def Nearer (demand c d : Int) : Prop :=
  (c - demand).natAbs < (d - demand).natAbs ∨ ((c - demand).natAbs = (d - demand).natAbs ∧ c ≤ d)

theorem Nearer.refl (demand c : Int) : Nearer demand c c := .inr ⟨rfl, Int.le_refl c⟩

theorem Nearer.trans {demand c d x : Int} (h : Nearer demand c d) (k : Nearer demand d x) : Nearer demand c x := by
  unfold Nearer at *; omega

/-- What a preference asks of its choice among the candidates that satisfy `possible` (R33). -/
def Prefers (preference : WrapPreference) (demand : Int) (possible : Int → Prop) (c : Int) : Prop :=
  match preference with
  | .nearest => ∀ d, possible d → Nearer demand c d
  | .low => ∀ d, possible d → c ≤ d
  | .high => ∀ d, possible d → d ≤ c

theorem absInt_lt_absInt {x y : Int} : absInt x < absInt y ↔ x.natAbs < y.natAbs := by
  unfold absInt; split <;> split <;> omega

/-- The closest of ascending candidates, and of two at equal distance the lower. -/
theorem closest_spec (demand : Int) (rest : List Int) : ∀ c, (c :: rest).Pairwise (· < ·) →
    closest demand c rest ∈ c :: rest ∧ ∀ d ∈ c :: rest, Nearer demand (closest demand c rest) d := by
  induction rest with
  | nil => exact fun c _ => ⟨by simp [closest], by simp [closest, Nearer.refl]⟩
  | cons x rest ih =>
    intro c hasc
    obtain ⟨hlower, hrest⟩ := List.pairwise_cons.mp hasc
    have hcx := hlower x (by simp)
    unfold closest
    split
    next hlt =>
      obtain ⟨hmem, hnear⟩ := ih x hrest
      refine ⟨List.mem_cons_of_mem _ hmem, fun d hd => ?_⟩
      rcases List.mem_cons.mp hd with rfl | hd
      · exact (hnear x (by simp)).trans (.inl (absInt_lt_absInt.mp hlt))
      · exact hnear d hd
    next hge =>
      obtain ⟨hmem, hnear⟩ := ih c (hasc.sublist (by simp))
      have hxfar : Nearer demand c x := by
        have := mt absInt_lt_absInt.mpr hge
        unfold Nearer; omega
      refine ⟨?_, fun d hd => ?_⟩
      · rcases List.mem_cons.mp hmem with he | hmem
        · simp [he]
        · simp [hmem]
      · rcases List.mem_cons.mp hd with rfl | hd
        · exact hnear d (by simp)
        · rcases List.mem_cons.mp hd with rfl | hd
          · exact (hnear c (by simp)).trans hxfar
          · exact hnear d (List.mem_cons_of_mem _ hd)

/-- The last of ascending candidates is the highest. -/
theorem getLastD_spec (rest : List Int) : ∀ c, (c :: rest).Pairwise (· < ·) →
    rest.getLastD c ∈ c :: rest ∧ ∀ d ∈ c :: rest, d ≤ rest.getLastD c := by
  induction rest with
  | nil => exact fun c _ => by simp
  | cons x rest ih =>
    intro c hasc
    obtain ⟨hlower, hrest⟩ := List.pairwise_cons.mp hasc
    obtain ⟨hmem, hhigh⟩ := ih x hrest
    rw [List.getLastD_cons]
    refine ⟨List.mem_cons_of_mem _ hmem, fun d hd => ?_⟩
    rcases List.mem_cons.mp hd with rfl | hd
    · exact Int.le_trans (Int.le_of_lt (hlower x (by simp))) (hhigh x (by simp))
    · exact hhigh d hd

theorem preferred_eq_none {preference : WrapPreference} {demand : Int} {l : List Int} :
    preferred preference demand l = none ↔ l = [] := by
  cases l <;> cases preference <;> simp [preferred]

/-- The preference's choice among ascending candidates is one of them, and the one it asks for. -/
theorem preferred_spec {preference : WrapPreference} {demand : Int} {l : List Int} (hasc : l.Pairwise (· < ·)) {c : Int}
    (h : preferred preference demand l = some c) : c ∈ l ∧ Prefers preference demand (· ∈ l) c := by
  cases l with
  | nil => simp [preferred] at h
  | cons x rest =>
    cases preference with
    | nearest => obtain rfl := Option.some.inj h; exact closest_spec demand rest x hasc
    | low =>
      obtain rfl := Option.some.inj h
      refine ⟨List.mem_cons_self, fun d hd => ?_⟩
      rcases List.mem_cons.mp hd with rfl | hd
      · exact Int.le_refl d
      · exact Int.le_of_lt ((List.pairwise_cons.mp hasc).1 d hd)
    | high => obtain rfl := Option.some.inj h; exact getLastD_spec rest x hasc

/-! ## The candidates of a node list -/

section Candidates
variable {image : SiteImage} {now : Nat} {demand az raw : Int} {preference : WrapPreference} {nodes : List TrackNode}

theorem within_iff {a x b : Int} : within a x b = true ↔ a ≤ x ∧ x ≤ b := by simp [within]

theorem feasible_iff {c : Int} :
    feasible image az raw nodes c = true ↔ image.azLow ≤ c ∧ c ≤ image.azHigh ∧
      ∀ x ∈ unwrappedOffsets nodes, image.azLow ≤ c + (az - raw) + x.2 ∧ c + (az - raw) + x.2 ≤ image.azHigh := by
  simp only [feasible, Bool.and_eq_true, within_iff, List.all_eq_true, and_assoc]

/-- The feasible ones among a − T, a and a + T, lowest first (R33). -/
def feasibleTurns (image : SiteImage) (az raw : Int) (nodes : List TrackNode) : List Int :=
  [reduceTurn raw - turn, reduceTurn raw, reduceTurn raw + turn].filter (feasible image az raw nodes)

theorem mem_feasibleTurns {c : Int} :
    c ∈ feasibleTurns image az raw nodes ↔
      (c = reduceTurn raw - turn ∨ c = reduceTurn raw ∨ c = reduceTurn raw + turn) ∧
        image.azLow ≤ c ∧ c ≤ image.azHigh ∧
        ∀ x ∈ unwrappedOffsets nodes, image.azLow ≤ c + (az - raw) + x.2 ∧ c + (az - raw) + x.2 ≤ image.azHigh := by
  simp only [feasibleTurns, List.mem_filter, feasible_iff, List.mem_cons, List.not_mem_nil, or_false]

theorem feasibleTurns_ascending : (feasibleTurns image az raw nodes).Pairwise (· < ·) := by
  have hpos : 0 < turn := by decide
  refine List.Pairwise.filter _ (List.pairwise_cons.mpr ⟨fun c hc => ?_, List.pairwise_cons.mpr ⟨fun c hc => ?_,
    List.pairwise_singleton ..⟩⟩)
  · rcases List.mem_cons.mp hc with rfl | hc
    · omega
    · rw [List.mem_singleton.mp hc]; omega
  · rw [List.mem_singleton.mp hc]; omega

/-- Each candidate lies whole turns from the azimuth of the track. -/
theorem feasibleTurns_emod {c : Int} (h : c ∈ feasibleTurns image az raw nodes) : (c - raw) % turn = 0 := by
  have := (mem_feasibleTurns.mp h).1
  unfold reduceTurn turn at this
  unfold turn
  omega

theorem wrapChoice_eq (h : rawAzimuth now nodes = some (az, raw)) :
    wrapChoice image now demand preference nodes =
      (preferred preference demand (feasibleTurns image az raw nodes)).map (· - raw) := by
  simp only [wrapChoice, h, feasibleTurns]

end Candidates

end Sys2Proof.Machine

namespace Sys2Proof.Proofs
open Sys2Proof.Machine

/-- Settles O28: the choice is the preferred one of the ascending feasible candidates. -/
theorem wrapChoiceIsFeasibleAndPreferred : Obligations.WrapChoiceIsFeasibleAndPreferred := by
  intro image now demand preference nodes az raw hraw a possible
  have hpossible : ∀ c, possible c ↔ c ∈ feasibleTurns image az raw nodes := fun _ => mem_feasibleTurns.symm
  rw [wrapChoice_eq hraw]
  constructor
  · rw [Option.map_eq_none_iff, preferred_eq_none, List.eq_nil_iff_forall_not_mem]
    exact forall_congr' fun c => not_congr (hpossible c).symm
  · intro turns hturns
    obtain ⟨c, hc, rfl⟩ := Option.map_eq_some_iff.mp hturns
    obtain ⟨hmem, hbest⟩ := preferred_spec feasibleTurns_ascending hc
    have hback : raw + (c - raw) = c := by omega
    simp only [hback]
    refine ⟨(hpossible c).mpr hmem, feasibleTurns_emod hmem, ?_⟩
    cases preference <;> exact fun d hd => hbest d ((hpossible d).mp hd)

end Sys2Proof.Proofs
end

section
/-! The target controller's endings and start check (02): what they leave alone, and what follows an ending. -/

namespace Sys2Proof.Machine

/-! ## What the operations leave of the list state and the hand-over serial -/

section Controller
variable {s : State}

theorem removeActive_ctrl (o : OutcomeKind) (s : State) :
    ∃ watches, (removeActive o s).ctrl = { s.ctrl with watches := watches } := by
  unfold removeActive
  split
  · exact ⟨_, rfl⟩
  · exact ⟨_, removeWithOutcome_ctrl ..⟩

/-- An ending leaves the controller in phase NONE, and of what stood before it the list state and the serial (R43). -/
theorem closeTarget_ctrl (o : OutcomeKind) (s : State) :
    ∃ watches, (closeTarget o s).ctrl = clearContext { s.ctrl with watches := watches } := by
  obtain ⟨watches, h⟩ := removeActive_ctrl o s
  exact ⟨watches, congrArg clearContext h⟩

@[simp] theorem closeTarget_listState (o : OutcomeKind) (s : State) :
    (closeTarget o s).ctrl.listState = s.ctrl.listState := by
  obtain ⟨_, h⟩ := closeTarget_ctrl o s; rw [h]; rfl

@[simp] theorem closeTarget_serial (o : OutcomeKind) (s : State) :
    (closeTarget o s).ctrl.serial = s.ctrl.serial := by
  obtain ⟨_, h⟩ := closeTarget_ctrl o s; rw [h]; rfl

theorem noteEmpty_terms (s : State) : (noteEmpty s).traj = s.traj ∧ (noteEmpty s).corr = s.corr := by
  unfold noteEmpty; split <;> exact ⟨rfl, rfl⟩

/-- An ending hands nothing over and moves no term: that is left to what follows it (R43, R44). -/
theorem closeTarget_terms (o : OutcomeKind) (s : State) :
    (closeTarget o s).traj = s.traj ∧ (closeTarget o s).corr = s.corr := by
  change (removeActive o s).traj = s.traj ∧ (removeActive o s).corr = s.corr
  unfold removeActive
  split
  · exact ⟨rfl, rfl⟩
  · exact noteEmpty_terms _

theorem handOver_eq (content : SlotContent) (s : State) :
    handOver content s =
      { s with
        ctrl := { s.ctrl with serial := (s.ctrl.serial + 1) % 65536 }
        traj := { s.traj with slot := some ⟨content, (s.ctrl.serial + 1) % 65536⟩ } } := rfl

theorem removeInfeasible_listState (r : TargetRecord) (s : State) :
    (removeInfeasible r s).ctrl.listState = s.ctrl.listState := by
  simp [removeInfeasible, removeWithOutcome_ctrl]

theorem startTarget_listState (r : TargetRecord) (turns : Int) (s : State) :
    (startTarget r turns s).ctrl.listState = s.ctrl.listState := rfl

theorem chooseStart_listState (fuel : Nat) : ∀ s, (chooseStart fuel s).ctrl.listState = s.ctrl.listState := by
  induction fuel with
  | zero => exact fun _ => rfl
  | succ n ih =>
    intro s
    unfold chooseStart
    split
    · rfl
    split
    · rfl
    split
    · exact (ih _).trans (removeInfeasible_listState ..)
    · rw [startTarget_listState]
      split
      · exact closeTarget_listState ..
      · rfl

@[simp] theorem startCheck_listState (s : State) : (startCheck s).ctrl.listState = s.ctrl.listState := by
  unfold startCheck
  split
  · exact chooseStart_listState ..
  · rfl

theorem endTarget_listState (o : OutcomeKind) (s : State) : (endTarget o s).ctrl.listState = s.ctrl.listState := by
  have h : (startCheck (closeTarget o s)).ctrl.listState = s.ctrl.listState := by simp
  unfold endTarget
  dsimp only
  split <;> exact h

end Controller

/-! ## What follows an ending (R44) -/

section Endings
variable {s : State} {o : OutcomeKind}

/-- The outcomes that a freeze may follow: LIMIT and RUN_OUT hand over by themselves, PREEMPTED is part of a start. -/
def Freezes (o : OutcomeKind) : Prop := o ≠ .limit ∧ o ≠ .runOut ∧ o ≠ .preempted

theorem freezeFollows_iff :
    freezeFollows o s = true ↔
      (s.ctrl.listState = .run ∨ s.ctrl.listState = .hold) ∧ s.ctrl.phase = .none ∧ Freezes o := by
  simp [freezeFollows, Freezes, State.targetActive, and_assoc]

theorem startCheck_of_not_run (h : s.ctrl.listState ≠ .run) : startCheck s = s := if_neg fun hc => h hc.1

/-- In STOP and STOW an ending hands nothing over. -/
theorem endTarget_stopped (h : s.ctrl.listState = .stop ∨ s.ctrl.listState = .stow) :
    endTarget o s = closeTarget o s := by
  have hlist : (closeTarget o s).ctrl.listState ≠ .run ∧ (closeTarget o s).ctrl.listState ≠ .hold := by
    rcases h with h | h <;> simp [h]
  have hno : ¬freezeFollows o (closeTarget o s) = true := fun hf =>
    (freezeFollows_iff.mp hf).1.elim hlist.1 hlist.2
  rw [endTarget, startCheck_of_not_run hlist.1]
  exact if_neg hno

/-- In HOLD no start check is taken. -/
theorem endTarget_hold (h : s.ctrl.listState = .hold) :
    (Freezes o → endTarget o s = handOver .freeze (closeTarget o s)) ∧
    (¬Freezes o → endTarget o s = closeTarget o s) := by
  have hiff : freezeFollows o (closeTarget o s) = true ↔ Freezes o := by
    simp [freezeFollows_iff, h, closeTarget_phase]
  rw [endTarget, startCheck_of_not_run (by simp [h])]
  exact ⟨fun hf => if_pos (hiff.mpr hf), fun hf => if_neg (mt hiff.mp hf)⟩

/-- In RUN the start check is taken, and the freeze follows when no successor has started. -/
theorem endTarget_run (h : s.ctrl.listState = .run) :
    ((startCheck (closeTarget o s)).ctrl.phase = .none → Freezes o →
      endTarget o s = handOver .freeze (startCheck (closeTarget o s))) ∧
    ((startCheck (closeTarget o s)).ctrl.phase ≠ .none ∨ ¬Freezes o →
      endTarget o s = startCheck (closeTarget o s)) := by
  have hiff : freezeFollows o (startCheck (closeTarget o s)) = true ↔
      (startCheck (closeTarget o s)).ctrl.phase = .none ∧ Freezes o := by
    simp [freezeFollows_iff, h]
  exact ⟨fun hp hf => if_pos (hiff.mpr ⟨hp, hf⟩),
    fun hn => if_neg fun hc => hn.elim (· (hiff.mp hc).1) (· (hiff.mp hc).2)⟩

theorem endIfActive_idle (h : s.ctrl.phase = .none) : endIfActive o s = s :=
  if_neg fun ha => (targetActive_iff s).mp ha h

theorem endIfActive_active (h : s.ctrl.phase ≠ .none) : endIfActive o s = endTarget o s :=
  if_pos ((targetActive_iff s).mpr h)

/-- Steps 1 to 4 of an ending for the active target, if there is one. -/
def closeActive (o : OutcomeKind) (s : State) : State := if s.ctrl.phase = .none then s else closeTarget o s

theorem closeActive_terms (o : OutcomeKind) (s : State) :
    (closeActive o s).traj = s.traj ∧ (closeActive o s).corr = s.corr := by
  unfold closeActive
  split
  · exact ⟨rfl, rfl⟩
  · exact closeTarget_terms ..

theorem closeActive_serial (o : OutcomeKind) (s : State) : (closeActive o s).ctrl.serial = s.ctrl.serial := by
  unfold closeActive
  split
  · rfl
  · exact closeTarget_serial ..

theorem closeActive_work (o : OutcomeKind) (s : State) : TargetWork s (closeActive o s) :=
  .iff (.refl s) (closeTarget_work ..)

theorem endIfActive_stopped (h : s.ctrl.listState = .stop ∨ s.ctrl.listState = .stow) :
    endIfActive o s = closeActive o s := by
  unfold closeActive
  split
  next hp => exact endIfActive_idle hp
  next hp => exact (endIfActive_active hp).trans (endTarget_stopped h)

end Endings

/-! ## Steps 1 to 4 of an ending (R43) -/

section Closing
variable {s : State}

theorem roundMs_eq (us : Nat) : roundMs us = (us + 500) / 1000 := by
  unfold roundMs roundDiv
  split <;> omega

/-- The open record of a target, marked at its end (R158). -/
theorem captureTargetEnded_eq (id : Nat) (s : State) :
    captureTargetEnded id s =
      { s with
        capture := { s.capture with
          fifo := s.capture.fifo.map fun q =>
            if q.closing = none ∧ q.targetId = id ∧ id ≠ 0 then { q with targetEnded := true } else q } } := by
  have hmark : ∀ q : CaptureRecord,
      (if q.isOpen then (if q.targetId = id ∧ id ≠ 0 then { q with targetEnded := true } else q) else q) =
        if q.closing = none ∧ q.targetId = id ∧ id ≠ 0 then { q with targetEnded := true } else q := fun q => by
    cases hc : q.closing <;> simp [CaptureRecord.isOpen, hc]
  simp only [captureTargetEnded, modOpen, hmark, State.setCapture]

/-- With the record of the active target found, it leaves with what it tells. -/
theorem closeTarget_found (o : OutcomeKind) {r : TargetRecord}
    (hr : activeRecord s.ctrl.activeId s.list.records = some r) :
    closeTarget o s =
      captureTargetEnded s.ctrl.activeId (raise .targetEnded
        ((removeWithOutcome r o s.time.clock ((trackedAt s.time.clock s.ctrl + 500) / 1000) s).modCtrl
          clearContext)) := by
  simp only [closeTarget, removeActive, hr, roundMs_eq]

end Closing

/-! ## The start check (R31 to R34) -/

section Starts
variable {s : State}

theorem allOn_iff : s.allOn = true ↔ ∀ a, (s.drive.get a).state = .on := by
  simp only [State.allOn, allAxes, List.all_eq_true, beq_iff_eq]
  exact ⟨fun h a => h a (by cases a <;> simp), fun h a _ => h a⟩

/-- The start time of the record is reached and its expire time is not, and it waits (R32). -/
def Eligible (s : State) (r : TargetRecord) : Prop :=
  r.status = .waiting ∧ r.start ≤ s.time.clock ∧ s.time.clock < r.expire

theorem eligible_iff {r : TargetRecord} :
    (r.status == .waiting && decide (r.start ≤ s.time.clock) && decide (s.time.clock < r.expire)) = true ↔
      Eligible s r := by
  simp [Eligible, and_assoc]

theorem candidate_eq_some_iff {r : TargetRecord} :
    candidate s = some r ↔
      ∃ front back, s.list.records = front ++ r :: back ∧ Eligible s r ∧ ∀ q ∈ front, ¬Eligible s q := by
  simp only [candidate, List.find?_eq_some_iff_append, eligible_iff, Bool.not_eq_true', ← Bool.not_eq_true]
  exact ⟨fun ⟨he, front, back, hl, hf⟩ => ⟨front, back, hl, he, hf⟩,
    fun ⟨front, back, hl, he, hf⟩ => ⟨he, front, back, hl, hf⟩⟩

theorem candidate_eq_none_iff : candidate s = none ↔ ∀ q ∈ s.list.records, ¬Eligible s q := by
  simp only [candidate, List.find?_eq_none, eligible_iff]

theorem chooseStart_none (fuel : Nat) (h : candidate s = none) : chooseStart fuel s = s := by
  cases fuel with
  | zero => rfl
  | succ n => simp only [chooseStart, h]

/-- An active target keeps its place before a candidate without PREEMPT (R31). -/
theorem chooseStart_kept (fuel : Nat) {r : TargetRecord} (h : candidate s = some r) (hp : s.ctrl.phase ≠ .none)
    (hr : r.options.preempt = false) : chooseStart fuel s = s := by
  cases fuel with
  | zero => rfl
  | succ n => simp [chooseStart, h, (targetActive_iff s).mpr hp, hr]

theorem removeInfeasible_records (r : TargetRecord) (s : State) :
    (removeInfeasible r s).list.records = s.list.records.filter fun q => q.id != r.id := by
  simp [removeInfeasible, removeWithOutcome_list, dropRecord, logOutcome]

/-- Each removal shortens the list. -/
theorem removeInfeasible_length {r : TargetRecord} (h : candidate s = some r) :
    (removeInfeasible r s).list.records.length < s.list.records.length := by
  rw [removeInfeasible_records]
  exact List.length_filter_lt_length_iff_exists.mpr ⟨r, (candidate_some h).1, by simp⟩

/-- More choices than records change nothing: each removes one. -/
theorem chooseStart_fuel (n : Nat) : ∀ {m : Nat} {s : State}, s.list.records.length < n → s.list.records.length < m →
    chooseStart n s = chooseStart m s := by
  induction n with
  | zero => exact fun h _ => absurd h (Nat.not_lt_zero _)
  | succ n ih =>
    intro m s hn hm
    obtain ⟨m, rfl⟩ := Nat.exists_eq_succ_of_ne_zero (Nat.ne_zero_of_lt hm)
    cases hc : candidate s with
    | none => rw [chooseStart_none _ hc, chooseStart_none _ hc]
    | some r =>
      have hlen := removeInfeasible_length hc
      have hrest : chooseStart n (removeInfeasible r s) = chooseStart m (removeInfeasible r s) :=
        ih (by omega) (by omega)
      simp only [chooseStart, hc, hrest]

/-- What the start check does when it is taken: the choice from as many records as there are (R31). -/
theorem startCheck_taken (hrun : s.ctrl.listState = .run) (hon : ∀ a, (s.drive.get a).state = .on) :
    startCheck s = chooseStart (s.list.records.length + 1) s := if_pos ⟨hrun, allOn_iff.mpr hon⟩

theorem startCheck_none (h : candidate s = none) : startCheck s = s := by
  unfold startCheck; rw [chooseStart_none _ h, ite_self]

/-- The check does nothing outside RUN, with an axis not ON, with no candidate, or with one that may not preempt. -/
theorem startCheck_stands (h : s.ctrl.listState ≠ .run ∨ (∃ a, (s.drive.get a).state ≠ .on) ∨ candidate s = none ∨
    (s.ctrl.phase ≠ .none ∧ ∃ r, candidate s = some r ∧ r.options.preempt = false)) : startCheck s = s := by
  rcases h with hrun | ⟨a, ha⟩ | hnone | ⟨hp, r, hr, hpre⟩
  · exact startCheck_of_not_run hrun
  · exact if_neg fun h => ha (allOn_iff.mp h.2 a)
  · exact startCheck_none hnone
  · unfold startCheck; rw [chooseStart_kept _ hr hp hpre, ite_self]

/-- The candidate may start: no target is active, or it preempts (R31). -/
theorem not_kept {r : TargetRecord} (h : s.ctrl.phase ≠ .none → r.options.preempt = true) :
    ¬(s.targetActive && !r.options.preempt) = true := by
  simpa [State.targetActive] using h

/-- A candidate without a feasible turn leaves, and the check chooses again (R33). -/
theorem startCheck_infeasible {r : TargetRecord} (hrun : s.ctrl.listState = .run)
    (hon : ∀ a, (s.drive.get a).state = .on) (hc : candidate s = some r)
    (hpre : s.ctrl.phase ≠ .none → r.options.preempt = true) (hw : s.wrapOf r = none) :
    startCheck s = startCheck (removeInfeasible r s) := by
  have hrun' : (removeInfeasible r s).ctrl.listState = .run := (removeInfeasible_listState r s).trans hrun
  have hon' : ∀ a, ((removeInfeasible r s).drive.get a).state = .on := by rwa [(removeInfeasible_work r s).drive]
  have hlen := removeInfeasible_length hc
  rw [startCheck_taken hrun hon, startCheck_taken hrun' hon']
  simp only [chooseStart, hc, if_neg (not_kept hpre), hw]
  exact chooseStart_fuel _ hlen (Nat.lt_succ_self _)

/-- A candidate with a feasible turn starts, after the active target, if there is one, is closed PREEMPTED (R34). -/
theorem startCheck_feasible {r : TargetRecord} {turns : Int} (hrun : s.ctrl.listState = .run)
    (hon : ∀ a, (s.drive.get a).state = .on) (hc : candidate s = some r)
    (hpre : s.ctrl.phase ≠ .none → r.options.preempt = true) (hw : s.wrapOf r = some turns) :
    startCheck s = startTarget r turns (closeActive .preempted s) := by
  have hactive : (if s.targetActive then closeTarget .preempted s else s) = closeActive .preempted s := by
    simp [State.targetActive, closeActive]
  rw [startCheck_taken hrun hon]
  simp only [chooseStart, hc, if_neg (not_kept hpre), hw, hactive]

/-- The guide accumulator's share in the terms of an axis (R112). -/
def guideOf (c : Correction) : Axis → Int
  | .az => c.gAz
  | .el => c.gEl
  | .rot => 0

/-- Terms taken from a driven axis go to its residual (R79). -/
theorem moveAxisTerms_neg (total g : Int) (x : TrajectoryAxis) :
    moveAxisTerms true (-total) (-g) x =
      { x with offset := x.offset - total, guide := x.guide - g, e := x.e + (total + g) } := by
  have he : x.e - (-total + -g) = x.e + (total + g) := by omega
  simp only [moveAxisTerms, if_true, he, Int.sub_eq_add_neg]

/-- The terms of an ON axis given up at a start: its residual takes the stack total and its share of G (R127, R79). -/
def clearedAxis (c : Correction) (a : Axis) (x : TrajectoryAxis) : TrajectoryAxis :=
  let total := (c.stack.map fun entry => entry.axes.get a).sum
  let g := guideOf c a
  { x with offset := x.offset - total, guide := x.guide - g, e := x.e + (total + g) }

/-- The correction unit cleared while every axis is ON (R127). -/
theorem clearCorrections_on (hon : ∀ a, (s.drive.get a).state = .on) :
    clearCorrections s =
      { s with
        corr := ⟨List.replicate s.image.ringDepth (0, 0), 0, 0, none, []⟩
        traj := { s.traj with axes := PerAxis.build fun a => clearedAxis s.corr a (s.traj.axes.get a) } } := by
  have hdriven : ∀ a, s.driven a = true := fun a => by rw [State.driven, hon a]; rfl
  have hoffset : ∀ a, (negAxes (stackTotals s.corr.stack)).get a = -(s.corr.stack.map fun x => x.axes.get a).sum :=
    fun a => by simp only [negAxes, stackTotals, PerAxis.get_map, PerAxis.get_build]
  have hguide : ∀ a, (⟨-s.corr.gAz, -s.corr.gEl, 0⟩ : PerAxis Int).get a = -guideOf s.corr a := fun a => by
    cases a <;> rfl
  have haxis : ∀ a, moveAxisTerms (s.driven a) ((negAxes (stackTotals s.corr.stack)).get a)
      ((⟨-s.corr.gAz, -s.corr.gEl, 0⟩ : PerAxis Int).get a) (s.traj.axes.get a) =
      clearedAxis s.corr a (s.traj.axes.get a) := fun a => by
    rw [hdriven, hoffset, hguide, moveAxisTerms_neg, clearedAxis]
  exact congrArg (fun f => ({ s with
    corr := ⟨List.replicate s.image.ringDepth (0, 0), 0, 0, none, []⟩
    traj := { s.traj with axes := PerAxis.build f } } : State)) (funext haxis)

end Starts

end Sys2Proof.Machine

namespace Sys2Proof.Proofs
open Sys2Proof.Machine

/-- Settles O29: the freeze and the start check that follow are those of `endTarget_hold` and `endTarget_run`. -/
theorem endingLogsRemovesAndClears : Obligations.EndingLogsRemovesAndClears := by
  intro outcome r s hp hr us entry list ctrl capture t closed
  have hclosed : closeTarget outcome s = closed := by
    rw [closeTarget_found outcome hr, removeWithOutcome_eq, noteEmpty_eq, captureTargetEnded_eq]
    have hgone : (takeOut r outcome s.time.clock ((trackedAt s.time.clock s.ctrl + 500) / 1000) s).list.records =
        list.records := rfl
    rw [hgone]
    unfold closed
    split <;> rfl
  have hparts : closed.ctrl = ctrl ∧ closed.traj = s.traj := by
    unfold closed
    split <;> exact ⟨rfl, rfl⟩
  rw [← hclosed] at hparts ⊢
  have hlimit : outcome = .limit ∨ outcome = .runOut → ¬Freezes outcome := fun ho hf => ho.elim hf.1 hf.2.1
  refine ⟨rfl, fun h hl hr hpre => ?_, fun h ho => (endTarget_hold h).2 (hlimit ho),
    fun h hpre => ⟨fun ho => (endTarget_run h).2 (ho.imp_right hlimit),
      fun hn hl hr => (endTarget_run h).1 hn ⟨hl, hr, hpre⟩⟩, endTarget_stopped⟩
  rw [(endTarget_hold h).1 ⟨hl, hr, hpre⟩, handOver_eq, hparts.1, hparts.2]

/-- Settles O27: what the check does by the wrap choice of the candidate is `startCheck_infeasible` and
`startCheck_feasible`. -/
theorem startCheckStartsTheCandidate : Obligations.StartCheckStartsTheCandidate := by
  intro s eligible
  refine ⟨fun r => candidate_eq_some_iff, candidate_eq_none_iff, startCheck_stands, ?_, ?_⟩
  · intro r hsound hrun hon hc hpre hw entry list t
    obtain ⟨hmem, hwaits⟩ := candidate_some hc
    obtain ⟨hlate, hstart, -, hguide⟩ := (hsound.records r hmem).waiting hwaits
    have hlog : takeOut r .wrapInfeasible s.time.clock 0 s = t := by
      simp only [takeOut, logOutcome, hlate, hstart, hguide]
      rfl
    rw [startCheck_infeasible hrun hon hc hpre hw, removeInfeasible, removeWithOutcome_eq, hlog, noteEmpty_eq]
  · intro r turns hrun hon hc hpre hw u started cleared serial
    have hstart : startCheck s = startTarget r turns u := startCheck_feasible hrun hon hc hpre hw
    have hterms : u.traj = s.traj ∧ u.corr = s.corr := closeActive_terms ..
    have hserial : u.ctrl.serial = s.ctrl.serial := closeActive_serial ..
    have hwork : TargetWork s u := closeActive_work ..
    have himage := State.image_congr hwork.loader
    have hon' : ∀ a, (u.drive.get a).state = .on := by rwa [hwork.drive]
    -- The close left the clock, the image, the terms and the serial alone, so all is said of the state `u` it left.
    clear_value u
    rw [hstart]
    simp only [serial, cleared, started, ← hterms.1, ← hterms.2, ← hserial, ← hwork.time, ← himage]
    unfold startTarget
    dsimp only
    rw [clearCorrections_on]
    · rfl
    · exact hon'

end Sys2Proof.Proofs
end

section
/-! RUN, HOLD, STOP, ABORT and RELEASE, the controller's timers, the STOW and DOME_READY lines, and the reads (02). -/

namespace Sys2Proof.Machine

/-! ## RUN, HOLD, STOP (R45 to R47) -/

section ListStateRequests
variable {s : State}

theorem acceptSequencing_of {l : ListState} (h : s.ctrl.listState = l) :
    acceptSequencing s = accept s (.sequencing l s.ctrl.phase s.ctrl.activeId) := by
  rw [acceptSequencing, sequencingReply, h]

theorem not_allOn_iff : (!s.allOn) = true ↔ ∃ a, (s.drive.get a).state ≠ .on := by
  rw [Bool.not_eq_true', ← Bool.not_eq_true, allOn_iff, Classical.not_forall]

theorem runRefusal_setPending (hp : s.time.pendingSet ≠ none) : runRefusal s = some .wrongState :=
  if_pos (Option.isSome_iff_ne_none.mpr hp)

theorem runRefusal_timeUnset (hp : s.time.pendingSet = none) (ht : s.time.status = .unset) :
    runRefusal s = some .timeUnset := by
  simp [runRefusal, hp, ht]

theorem runRefusal_notOn (hp : s.time.pendingSet = none) (ht : s.time.status ≠ .unset)
    (ha : ∃ a, (s.drive.get a).state ≠ .on) : runRefusal s = some .wrongState := by
  simp [runRefusal, hp, ht, not_allOn_iff.mpr ha]

theorem runRefusal_eq_none (hp : s.time.pendingSet = none) (ht : s.time.status ≠ .unset)
    (ha : ∀ a, (s.drive.get a).state = .on) : runRefusal s = none := by
  simp [runRefusal, hp, ht, allOn_iff.mpr ha]

theorem runBody_stow (h : s.ctrl.listState = .stow) : runBody s = refuse s .wrongState := by
  simp only [runBody, h]

theorem runBody_run (h : s.ctrl.listState = .run) :
    runBody s = accept s (.sequencing .run s.ctrl.phase s.ctrl.activeId) := by
  simp only [runBody, h, acceptSequencing_of h]

theorem runBody_refused {code : Code} (h : s.ctrl.listState = .stop ∨ s.ctrl.listState = .hold)
    (hc : runRefusal s = some code) : runBody s = refuse s code := by
  rcases h with h | h <;> simp only [runBody, h, hc]

theorem runBody_enters (h : s.ctrl.listState = .stop ∨ s.ctrl.listState = .hold) (hc : runRefusal s = none) :
    runBody s =
      let t := startCheck (s.setListState .run)
      accept t (.sequencing .run t.ctrl.phase t.ctrl.activeId) := by
  have hrun : (startCheck (s.setListState .run)).ctrl.listState = .run := startCheck_listState _
  rcases h with h | h <;> simp only [runBody, h, hc, acceptSequencing_of hrun]

theorem holdBody_run (h : s.ctrl.listState = .run) :
    holdBody s = accept (s.setListState .hold) (.sequencing .hold s.ctrl.phase s.ctrl.activeId) := by
  simp only [holdBody, h]; rfl

theorem holdBody_hold (h : s.ctrl.listState = .hold) :
    holdBody s = accept s (.sequencing .hold s.ctrl.phase s.ctrl.activeId) := by
  simp only [holdBody, h, acceptSequencing_of h]

theorem holdBody_refused (h : s.ctrl.listState = .stop ∨ s.ctrl.listState = .stow) :
    holdBody s = refuse s .wrongState := by
  rcases h with h | h <;> simp only [holdBody, h]

theorem stopBody_stow (h : s.ctrl.listState = .stow) : stopBody s = refuse s .wrongState := by
  simp only [stopBody, h]

theorem stopBody_stop (h : s.ctrl.listState = .stop) :
    stopBody s = accept s (.sequencing .stop s.ctrl.phase s.ctrl.activeId) := by
  simp only [stopBody, h, acceptSequencing_of h]

theorem stopList_eq (o : OutcomeKind) (s : State) :
    stopList o s = handOver .freeze (closeActive o (s.setListState .stop)) :=
  congrArg _ (endIfActive_stopped (.inl rfl))

theorem stopBody_leaves (h : s.ctrl.listState = .run ∨ s.ctrl.listState = .hold) :
    stopBody s = acceptSequencing (handOver .freeze (closeActive .aborted (s.setListState .stop))) := by
  rw [← stopList_eq]
  rcases h with h | h <;> simp only [stopBody, h]

/-- STOP from RUN or HOLD with no target active: the freeze alone. -/
theorem stopBody_idle (h : s.ctrl.listState = .run ∨ s.ctrl.listState = .hold) (hp : s.ctrl.phase = .none) :
    stopBody s = accept (handOver .freeze (s.setListState .stop)) (.sequencing .stop .none s.ctrl.activeId) := by
  have hstands : closeActive .aborted (s.setListState .stop) = s.setListState .stop := if_pos hp
  rw [stopBody_leaves h, hstands, ← hp]
  rfl

/-- STOP from RUN or HOLD with a target active: it ends ABORTED before the freeze. -/
theorem stopBody_active (h : s.ctrl.listState = .run ∨ s.ctrl.listState = .hold) (hp : s.ctrl.phase ≠ .none) :
    stopBody s =
      accept (handOver .freeze (closeTarget .aborted (s.setListState .stop))) (.sequencing .stop .none 0) := by
  have hcloses : closeActive .aborted (s.setListState .stop) = closeTarget .aborted (s.setListState .stop) := if_neg hp
  rw [stopBody_leaves h, hcloses, acceptSequencing_of (l := .stop) (closeTarget_listState ..)]
  rfl

end ListStateRequests

/-! ## ABORT, RELEASE (R48, R49) -/

section EndingRequests
variable {id : Half} {s : State}

theorem namesActive_iff : namesActive id s = true ↔ id.toNat = 0 ∨ id.toNat = s.ctrl.activeId := by
  simp [namesActive]

theorem abortBody_idle (hp : s.ctrl.phase = .none) : abortBody id s = refuse s .wrongState := by
  simp [abortBody, State.targetActive, hp]

theorem abortBody_other (hp : s.ctrl.phase ≠ .none) (hn : ¬(id.toNat = 0 ∨ id.toNat = s.ctrl.activeId)) :
    abortBody id s = refuse s .noSuchTarget := by
  simp [abortBody, (targetActive_iff s).mpr hp, Bool.eq_false_iff.mpr (mt namesActive_iff.mp hn)]

theorem abortBody_ends (hp : s.ctrl.phase ≠ .none) (hn : id.toNat = 0 ∨ id.toNat = s.ctrl.activeId) :
    abortBody id s = acceptSequencing (endTarget .aborted s) := by
  simp [abortBody, (targetActive_iff s).mpr hp, namesActive_iff.mpr hn]

theorem releaseBody_idle (hp : s.ctrl.phase = .none) : releaseBody id s = refuse s .wrongState := by
  simp [releaseBody, State.targetActive, hp]

theorem releaseBody_other (hp : s.ctrl.phase ≠ .none) (hn : ¬(id.toNat = 0 ∨ id.toNat = s.ctrl.activeId)) :
    releaseBody id s = refuse s .noSuchTarget := by
  simp [releaseBody, (targetActive_iff s).mpr hp, Bool.eq_false_iff.mpr (mt namesActive_iff.mp hn)]

theorem releaseBody_early (hp : s.ctrl.phase = .approach ∨ s.ctrl.phase = .settle)
    (hn : id.toNat = 0 ∨ id.toNat = s.ctrl.activeId) : releaseBody id s = refuse s .wrongState := by
  rcases hp with hp | hp <;> simp [releaseBody, State.targetActive, hp, namesActive_iff.mpr hn]

theorem releaseBody_ends (hp : s.ctrl.phase = .track) (hn : id.toNat = 0 ∨ id.toNat = s.ctrl.activeId) :
    releaseBody id s = acceptSequencing (endTarget .released s) := by
  simp [releaseBody, State.targetActive, hp, namesActive_iff.mpr hn]

theorem abort_lenOk (id : Half) : RequestKind.abort.lenOk ((bytes2 id).length / 2) = true := by
  simp [RequestKind.lenOk, bytes2]

theorem release_lenOk (id : Half) : RequestKind.release.lenOk ((bytes2 id).length / 2) = true := by
  simp [RequestKind.lenOk, bytes2]

/-- In RUN the start check comes first, and the freeze when no successor has started. -/
theorem endTarget_run_eq {o : OutcomeKind} (h : s.ctrl.listState = .run) (ho : Freezes o) :
    endTarget o s =
      let u := startCheck (closeTarget o s)
      if u.ctrl.phase = .none then handOver .freeze u else u := by
  dsimp only
  split
  next hp => exact (endTarget_run h).1 hp ho
  next hp => exact (endTarget_run h).2 (.inl hp)

end EndingRequests

/-! ## A served request that ends the active target -/

section Ends
variable {c : Instr} {k : RequestKind} {p : Port} {tag : Byte} {payload : List Byte} {body : State → Answer} {s : State}
  {o : OutcomeKind} (hr : c.request = some (p, requestFrame k tag payload))
  (hl : k.lenOk (payload.length / 2) = true) (hs : Served k p s)
  (hb : body (received p (requestFrame k tag payload) s) =
    acceptSequencing (endTarget o (received p (requestFrame k tag payload) s)))
include hr hl hs hb

/-- The ending is the whole effect, and the reply is formed from what it leaves. -/
theorem serve_ends :
    let t := endTarget o (received p (requestFrame k tag payload) s)
    Host.Outcome.next (serve c body s) =
      acceptedBy k p tag payload (.sequencing s.ctrl.listState t.ctrl.phase t.ctrl.activeId) (endTarget o) s :=
  serve_accepts hr hl hs (hb.trans (acceptSequencing_of (endTarget_listState ..))) (endTarget_work ..).link

/-- In HOLD a freeze follows the ending. -/
theorem serve_ends_hold (ho : Freezes o) (h : s.ctrl.listState = .hold) :
    Host.Outcome.next (serve c body s) =
      acceptedBy k p tag payload (.sequencing .hold .none 0)
        (fun t =>
          let u := closeTarget o t
          let serial := (s.ctrl.serial + 1) % 65536
          { u with
            ctrl := { u.ctrl with serial := serial }
            traj := { u.traj with slot := some ⟨.freeze, serial⟩ } }) s := by
  have hhold : (received p (requestFrame k tag payload) s).ctrl.listState = .hold := h
  refine serve_accepts hr hl hs (hb.trans ?_) (closeTarget_work ..).link
  rw [acceptSequencing_of ((endTarget_listState ..).trans hhold), (endTarget_hold hhold).1 ho, handOver_eq,
    closeTarget_serial]
  rfl

/-- In RUN the start check follows, and a freeze when no successor has started. -/
theorem serve_ends_run (ho : Freezes o) (h : s.ctrl.listState = .run) :
    let running := fun t : State =>
      let u := startCheck (closeTarget o t)
      if u.ctrl.phase = .none then handOver .freeze u else u
    let t := running (received p (requestFrame k tag payload) s)
    Host.Outcome.next (serve c body s) =
      acceptedBy k p tag payload (.sequencing .run t.ctrl.phase t.ctrl.activeId) running s := by
  intro running t
  have hrun : (received p (requestFrame k tag payload) s).ctrl.listState = .run := h
  have hends : endTarget o (received p (requestFrame k tag payload) s) = t := endTarget_run_eq hrun ho
  refine serve_accepts hr hl hs (hb.trans ?_) ((congrArg State.link hends).symm.trans (endTarget_work ..).link)
  rw [acceptSequencing_of ((endTarget_listState ..).trans hrun), hends]

end Ends

/-! ## Lines and timers -/

section Lines
variable {s : State}

theorem timerDue_some {now x : Nat} (h : x ≤ now) : timerDue now (some x) = true := decide_eq_true h

/-- An expiry that is due is taken while RESET is low. -/
theorem next_due {due : Bool} {t u : State} (hreset : s.lines.reset = false) (hdue : due = true) :
    Host.Outcome.next (φ := Fault) (ρ := Refusal) (if !s.heldInReset && due then t else u) = .next t :=
  congrArg Host.Outcome.next (if_pos (by simp [State.heldInReset, hreset, hdue]))

/-- A later entry to TRACK: the target has been there before (R38). -/
theorem enterTrack_again (h : s.ctrl.firstTrackReached = true) :
    enterTrack s =
      { s with ctrl := { s.ctrl with
          phase := .track, settleTimeout := none, settleHold := none, trackEntry := some s.time.clock } } := if_pos h

/-- The first entry to TRACK starts the dwell, notes the time in the record and raises SETTLED (R38). -/
theorem enterTrack_first (h : s.ctrl.firstTrackReached = false) :
    enterTrack s =
      raise .settled
        { s with
          ctrl := { s.ctrl with
            phase := .track, settleTimeout := none, settleHold := none, trackEntry := some s.time.clock
            firstTrackReached := true
            dwellTimer := if s.ctrl.dwell = 0 then none else some (s.time.clock + s.ctrl.dwell * 1000) }
          list := { s.list with
            records := s.list.records.map fun q =>
              if q.id = s.ctrl.activeId then { q with firstTrack := some s.time.clock } else q } } :=
  if_neg (by simp [h])

theorem withinTolerance_iff {tolerance : PerAxis Nat} {errors : PerAxis (Option Int)} :
    withinTolerance tolerance errors = true ↔ ∀ a, ∃ x, errors.get a = some x ∧ x.natAbs ≤ tolerance.get a := by
  have haxis : ∀ a, (match errors.get a with
      | none => false
      | some x => decide (x.natAbs ≤ tolerance.get a)) = true ↔
      ∃ x, errors.get a = some x ∧ x.natAbs ≤ tolerance.get a :=
    fun a => by cases errors.get a <;> simp
  rw [withinTolerance, List.all_eq_true]
  exact ⟨fun h a => (haxis a).mp (h a (by cases a <;> simp [allAxes])), fun h a _ => (haxis a).mpr (h a)⟩

/-- With the condition met, a hold timer that stands still starts (R36). -/
theorem judgeSettle_starts (hc : settleCondition s = true) (hh : s.ctrl.settleHold = none)
    (h0 : s.image.settleHoldMs ≠ 0) :
    judgeSettle s =
      { s with ctrl := { s.ctrl with settleHold := some (s.time.clock + s.image.settleHoldMs * 1000) } } := by
  simp only [judgeSettle, hc, hh, h0, if_true, if_false]
  rfl

/-- With the condition not met, the hold timer stops (R36). -/
theorem judgeSettle_stops (hc : settleCondition s = false) :
    judgeSettle s = { s with ctrl := { s.ctrl with settleHold := none } } := by
  simp only [judgeSettle, hc]
  rfl

/-- A change of DOME_READY in SETTLE is judged for a DOME_WAIT target (R37). -/
theorem domeReadyChange_judged {level : Bool} (hreset : s.lines.reset = false) (hchange : s.lines.domeReady ≠ level)
    (hp : s.ctrl.phase = .settle) (hw : s.ctrl.options.domeWait = true) :
    exec (.domeReadyChange level) s = .next (judgeSettle (s.setLines { s.lines with domeReady := level })) := by
  have hjudged : domeChanged (s.setLines { s.lines with domeReady := level }) =
      judgeSettle (s.setLines { s.lines with domeReady := level }) := if_pos ⟨hp, hw⟩
  rw [← hjudged]
  exact next_due hreset (by simpa using hchange)

/-- A rise of STOW closes an active target, and hands the stow reference of the present demands over (R50; log 14). -/
theorem stowRise_eq (s : State) :
    stowRise s =
      raise .stowChange (handOver (.stow ⟨s.traj.axes.az.demand, s.image.stowElevation, s.traj.axes.rot.demand⟩)
        (closeActive .stowed (s.setListState .stow))) := by
  have hends : endIfActive .stowed (s.setListState .stow) = closeActive .stowed (s.setListState .stow) :=
    endIfActive_stopped (.inr rfl)
  have hstow : stowReference (closeActive .stowed (s.setListState .stow)) =
      ⟨s.traj.axes.az.demand, s.image.stowElevation, s.traj.axes.rot.demand⟩ := by
    rw [stowReference, (closeActive_terms ..).1, State.image_congr (closeActive_work ..).loader]
    rfl
  simp only [stowRise, hends, hstow]

end Lines

/-! ## Reads (R53, R66, R87, R126, R148, R173) -/

section Reads
variable {s : State}

/-- The earliest of times is one of them, and none of them is earlier; there is none of no times. -/
theorem earliest_spec (l : List Nat) :
    (∀ n, earliest l = some n → n ∈ l) ∧ ∀ x ∈ l, ∃ n, earliest l = some n ∧ n ≤ x := by
  induction l with
  | nil => simp [earliest]
  | cons x rest ih =>
    obtain ⟨hmem, hleast⟩ := ih
    cases hrest : earliest rest with
    | none =>
      have hempty : ∀ y, y ∉ rest := fun y hy => by
        obtain ⟨n, hn, -⟩ := hleast y hy
        rw [hrest] at hn; cases hn
      simp [earliest, hrest, hempty]
    | some y =>
      have hy := hmem y hrest
      have hcons : earliest (x :: rest) = some (min x y) := by simp [earliest, hrest]
      refine ⟨fun n hn => ?_, fun z hz => ⟨min x y, hcons, ?_⟩⟩
      · obtain rfl : min x y = n := by rw [hcons] at hn; exact Option.some.inj hn
        rcases Nat.le_total x y with hxy | hyx
        · simp [Nat.min_eq_left hxy]
        · simp [Nat.min_eq_right hyx, hy]
      · rcases List.mem_cons.mp hz with rfl | hz
        · exact Nat.min_le_left ..
        · obtain ⟨n, hn, hle⟩ := hleast z hz
          obtain rfl : y = n := by rw [hrest] at hn; exact Option.some.inj hn
          exact Nat.le_trans (Nat.min_le_right ..) hle

/-- OTHER_CUT of an axis is active when another axis is in CUT (R142). -/
theorem anyCut_otherAxes (s : State) (a : Axis) :
    anyCut s (otherAxes a) = allAxes.any fun b => b != a && (s.drive.get b).state == .cut := by
  cases a <;> simp [anyCut, otherAxes, allAxes, show ∀ x y : Axis, (x != y) = !decide (x = y) from fun _ _ => rfl]

theorem secantDivisor_eq (el : Int) :
    secantDivisor el =
      (if cosine el < 67108864 then 67108864 else cosine el, decide (cosine el < 67108864)) := by
  unfold secantDivisor secantCap
  dsimp only
  split <;> simp_all

theorem statusView_received (p : Port) (f : Frame) (s : State) : statusView p (received p f s) = statusView p s := by
  cases p <;> rfl

end Reads

end Sys2Proof.Machine

namespace Sys2Proof.Proofs
open Sys2Proof.Machine

/-- Settles O24, by the list state and, from STOP and HOLD, by R45's conditions in their order. -/
theorem runEntersRunFromStopOrHold : Obligations.RunEntersRunFromStopOrHold := by
  intro p tag s hs refuses stopped running
  let s1 := received p (requestFrame .run tag []) s
  refine ⟨fun h => serve_refuses rfl rfl hs (runBody_stow h),
    fun h => serve_accepts rfl rfl hs (runBody_run h) rfl,
    fun h hp => serve_refuses rfl rfl hs (runBody_refused h (runRefusal_setPending hp)),
    fun h hp ht => serve_refuses rfl rfl hs (runBody_refused h (runRefusal_timeUnset hp ht)),
    fun h hp ht ha => serve_refuses rfl rfl hs (runBody_refused h (runRefusal_notOn hp ht ha)), fun h hp ht ha => ?_⟩
  have henters := runBody_enters (s := s1) h (runRefusal_eq_none hp ht ha)
  refine ⟨fun hc => serve_accepts rfl rfl hs (henters.trans ?_) rfl,
    serve_accepts rfl rfl hs henters (startCheck_work _).link⟩
  have hstands : startCheck (s1.setListState .run) = s1.setListState .run := startCheck_none hc
  rw [hstands]
  rfl

/-- Settles O25, by the list state. -/
theorem holdAndStopMoveTheListState : Obligations.HoldAndStopMoveTheListState := by
  intro p tag s
  constructor
  · exact fun hs => ⟨fun h => serve_accepts rfl rfl hs (holdBody_run h) rfl,
      fun h => serve_accepts rfl rfl hs (holdBody_hold h) rfl, fun h => serve_refuses rfl rfl hs (holdBody_refused h)⟩
  intro hs serial
  refine ⟨fun h => ⟨fun hp => serve_accepts rfl rfl hs (stopBody_idle h hp) rfl, fun hp => ?_⟩,
    fun h => serve_accepts rfl rfl hs (stopBody_stop h) rfl, fun h => serve_refuses rfl rfl hs (stopBody_stow h)⟩
  refine serve_accepts rfl rfl hs
    ((stopBody_active (s := received p (requestFrame .stop tag []) s) h hp).trans ?_) (closeTarget_work ..).link
  rw [handOver_eq, closeTarget_serial]
  rfl

/-- Settles O26: a target that is named ends as `serve_ends`, `serve_ends_hold` and `serve_ends_run` say. -/
theorem abortAndReleaseEndTheNamedTarget : Obligations.AbortAndReleaseEndTheNamedTarget := by
  intro p tag id s names held running
  have hla := abort_lenOk id
  have hlr := release_lenOk id
  have haborted : Freezes .aborted := by simp [Freezes]
  have hreleased : Freezes .released := by simp [Freezes]
  refine ⟨fun hu => ⟨serve_unconfigured rfl hla rfl hu, serve_unconfigured rfl hlr rfl hu⟩, ?_, ?_⟩
  · exact fun hs => ⟨fun hp => serve_refuses rfl hla hs (abortBody_idle hp),
      fun hp hn => serve_refuses rfl hla hs (abortBody_other hp hn),
      fun hp hn => serve_ends rfl hla hs (abortBody_ends hp hn),
      fun hp hn => serve_ends_hold rfl hla hs (abortBody_ends hp hn) haborted,
      fun hp hn => serve_ends_run rfl hla hs (abortBody_ends hp hn) haborted⟩
  · exact fun hs => ⟨fun hp => serve_refuses rfl hlr hs (releaseBody_idle hp),
      fun hp hn => serve_refuses rfl hlr hs (releaseBody_other hp hn),
      fun hp hn => serve_refuses rfl hlr hs (releaseBody_early hp hn),
      fun hp hn => serve_ends rfl hlr hs (releaseBody_ends hp hn),
      fun hp hn => serve_ends_hold rfl hlr hs (releaseBody_ends hp hn) hreleased,
      fun hp hn => serve_ends_run rfl hlr hs (releaseBody_ends hp hn) hreleased⟩

/-- Settles O30: each expiry is due. -/
theorem targetTimersActWhenTheyExpire : Obligations.TargetTimersActWhenTheyExpire := by
  intro s hreset
  refine ⟨fun id w hw hid hexp hstart => next_due hreset ?_, fun x hx hdue hp => ?_,
    fun x hx hdue hp => next_due hreset ?_, fun x hx hdue hp => next_due hreset ?_⟩
  · exact List.any_eq_true.mpr ⟨w, hw, by simp [watchDue, hid, hexp, hstart]⟩
  · have hhold : settleHoldDue s = true := by simp [settleHoldDue, hx, timerDue_some hdue, hp]
    have htaken : exec .settleHoldExpiry s = .next (enterTrack s) := next_due hreset hhold
    intro entered
    exact ⟨fun hf => htaken.trans (congrArg _ (enterTrack_again hf)),
      fun hf => htaken.trans (congrArg _ (enterTrack_first hf))⟩
  · simpa [settleTimeoutDue, hx, timerDue_some hdue] using hp
  · simpa [dwellDue, hx, timerDue_some hdue] using hp

/-- Settles O31: what an edge of STOW and a change of DOME_READY bring is `stowRise_eq` and the judgement of R36. -/
theorem stowAndDomeReadyAct : Obligations.StowAndDomeReadyAct := by
  intro s hreset
  have hheld : s.heldInReset = false := hreset
  refine ⟨fun hlow hv => ?_, fun hhigh hv hl => ?_, fun hhigh hl => ?_, fun hv => ⟨?_, ?_⟩, fun level hn => ?_,
    fun hhigh hp hw => ?_, fun hlow hp hw hh h0 hnear => ?_⟩
  · have htaken : exec .stowRise s = .next (stowRise (s.setLines { s.lines with stow := true })) :=
      congrArg Host.Outcome.next (if_pos (by simp [hheld, hv, hlow]))
    rw [htaken, stowRise_eq, handOver_eq, closeActive_serial]
    rfl
  · have htaken : exec .stowFall s = .next (stowFall (s.setLines { s.lines with stow := false })) :=
      congrArg Host.Outcome.next (if_pos (by simp [hheld, hv, hhigh]))
    exact htaken.trans (congrArg Host.Outcome.next (if_pos hl))
  · have hstands : stowFall (s.setLines { s.lines with stow := false }) = s.setLines { s.lines with stow := false } :=
      if_neg hl
    change Host.Outcome.next (if _ then stowFall (s.setLines { s.lines with stow := false }) else _) = _
    rw [hstands, ite_self]
    rfl
  · exact congrArg Host.Outcome.next (if_neg (by simp [hv]))
  · exact congrArg Host.Outcome.next (if_neg (by simp [hv]))
  · have hstands : domeChanged (s.setLines { s.lines with domeReady := level }) =
        s.setLines { s.lines with domeReady := level } := if_neg hn
    change Host.Outcome.next (if _ then domeChanged (s.setLines { s.lines with domeReady := level }) else _) = _
    rw [hstands, ite_self]
    rfl
  · have hcond : settleCondition (s.setLines { s.lines with domeReady := false }) = false := by
      simp [settleCondition, hw]
    rw [domeReadyChange_judged hreset (by simp [hhigh]) hp hw, judgeSettle_stops hcond]
    rfl
  · have htolerated : withinTolerance (s.setLines { s.lines with domeReady := true }).image.tolerance
        s.ctrl.lastError = true := withinTolerance_iff.mpr hnear
    have hcond : settleCondition (s.setLines { s.lines with domeReady := true }) = true := by
      simp [settleCondition, htolerated]
    rw [domeReadyChange_judged hreset (by simp [hlow]) hp hw, judgeSettle_starts hcond hh (Nat.ne_of_gt h0)]
    rfl

/-- Settles O54: each block reads its own state, which the request's frame leaves as it stood. -/
theorem readsAnswerTheStateAndChangeNothing : Obligations.ReadsAnswerTheStateAndChangeNothing := by
  intro p tag s left
  refine ⟨fun hs => ?_, fun hs => serve_accepts rfl rfl hs rfl rfl, fun hs => serve_accepts rfl rfl hs ?_ rfl,
    fun hs => serve_accepts rfl rfl hs ?_ rfl, fun hs => serve_accepts rfl rfl hs ?_ rfl,
    fun hs => serve_accepts rfl rfl hs ?_ rfl⟩
  · obtain ⟨hmem, hleast⟩ := earliest_spec ((s.ctrl.watches.filter fun w => !w.expired).map (·.start))
    refine ⟨earliest ((s.ctrl.watches.filter fun w => !w.expired).map (·.start)), fun n hn => ?_, fun w hw hexp => ?_,
      serve_accepts rfl rfl hs ?_ rfl⟩
    · obtain ⟨w, hw, hstart⟩ := List.mem_map.mp (hmem n hn)
      obtain ⟨hw, hexp⟩ := List.mem_filter.mp hw
      exact ⟨w, hw, by simpa using hexp, hstart⟩
    · exact hleast _ (List.mem_map_of_mem (List.mem_filter.mpr ⟨hw, by simp [hexp]⟩))
    · rw [sequenceView, roundMs_eq]
      rfl
  · rfl
  · rw [correctionsView, secantDivisor_eq]
    rfl
  · unfold axisView
    simp only [anyCut_otherAxes]
    rfl
  · exact congrArg (fun v => accept _ (.status v)) (statusView_received ..)

end Sys2Proof.Proofs
end

section
/-! The approach generator (05): the braking distance, the step rule along and against the residual, braking to rest, the
stop point of a freeze, and the approach from rest. -/

namespace Sys2Proof.Machine

/-! ## The braking distance (R94) -/

section BrakingDistance
variable {a : Nat}

/-- Braking from s + a moves the axis by s first (R94). -/
theorem brakingDistance_add (ha : 1 ≤ a) (s : Nat) : brakingDistance a (s + a) = brakingDistance a s + s := by
  obtain ⟨n, hn⟩ : ∃ n, n = s / a := ⟨_, rfl⟩
  have hle : a * n ≤ s := hn ▸ Nat.mul_div_le s a
  have hquot : (s + a) / a = n + 1 := by rw [Nat.add_div_right s ha, hn]
  have hsum : a * (n + 1) * (n + 2) / 2 = a * n * (n + 1) / 2 + a * (n + 1) := by
    rw [← Nat.add_mul_div_right _ _ (by decide : 0 < 2), Nat.mul_add (a * (n + 1)) n 2, Nat.mul_right_comm a (n + 1) n]
  have hsquare : a * n ≤ a * n * n := by rw [Nat.mul_assoc]; exact Nat.mul_le_mul_left a (Nat.le_mul_self n)
  have hdouble : a * n * (n + 1) ≤ n * s * 2 := calc
    a * n * (n + 1) = a * n * n + a * n := Nat.mul_succ ..
    _ ≤ a * n * n + a * n * n := Nat.add_le_add_left hsquare _
    _ ≤ s * n + s * n := Nat.add_le_add (Nat.mul_le_mul_right n hle) (Nat.mul_le_mul_right n hle)
    _ = n * s * 2 := by rw [Nat.mul_two, Nat.mul_comm n s]
  have hlead : (n + 1) * (s + a) = n * s + s + a * (n + 1) := by
    rw [Nat.mul_add (n + 1) s a, Nat.add_mul n 1 s, Nat.one_mul, Nat.mul_comm (n + 1) a]
  unfold brakingDistance
  dsimp only
  rw [hquot, ← hn, hsum, hlead]
  omega

theorem brakingDistance_eq_zero {s : Nat} (h : s ≤ a) : brakingDistance a s = 0 := by
  unfold brakingDistance
  rcases Nat.lt_or_eq_of_le h with h | rfl
  · simp [Nat.div_eq_of_lt h]
  · rcases Nat.eq_zero_or_pos s with rfl | hs
    · rfl
    · simp [Nat.div_self hs]

theorem brakingDistance_of_lt (ha : 1 ≤ a) {s : Nat} (h : a < s) :
    brakingDistance a s = (s - a) + brakingDistance a (s - a) := by
  have := brakingDistance_add ha (s - a)
  rw [Nat.sub_add_cancel (Nat.le_of_lt h)] at this
  omega

theorem brakingDistance_eq_sum (ha : 1 ≤ a) (s : Nat) :
    brakingDistance a s = ((List.range (s / a)).map fun i => s - (i + 1) * a).sum := by
  induction s using Nat.strongRecOn with
  | _ s ih =>
    rcases Nat.lt_or_ge s a with h | h
    · simp [Nat.div_eq_of_lt h, brakingDistance_eq_zero (Nat.le_of_lt h)]
    · obtain ⟨r, rfl⟩ := Nat.exists_eq_add_of_le' h
      have hterm : ∀ i, r + a - (i + 1 + 1) * a = r - (i + 1) * a := fun i => by rw [Nat.succ_mul]; omega
      have hhead : r + a - (0 + 1) * a = r := by omega
      rw [brakingDistance_add ha, ih r (by omega), Nat.add_div_right r ha, List.range_succ_eq_map, List.map_cons,
        List.sum_cons, List.map_map, hhead, Nat.add_comm]
      simp only [Function.comp_def, Nat.succ_eq_add_one, hterm]

theorem brakingDistance_mono (ha : 1 ≤ a) {s t : Nat} (h : s ≤ t) : brakingDistance a s ≤ brakingDistance a t := by
  induction s using Nat.strongRecOn generalizing t with
  | _ s ih =>
    rcases Nat.lt_or_ge a s with hs | hs
    · rw [brakingDistance_of_lt ha hs, brakingDistance_of_lt ha (Nat.lt_of_lt_of_le hs h)]
      have := ih (s - a) (by omega) (t := t - a) (by omega)
      omega
    · simp [brakingDistance_eq_zero hs]

end BrakingDistance

/-! ## A side of the reference

A motion on the side `σ` of the reference, at the distance `d` and with the speed `u`, away from it or toward it. -/

/-- A side of the reference. -/
def IsSide (σ : Int) : Prop := σ = 1 ∨ σ = -1

/-- Moving away from the reference. -/
def outward (σ : Int) (d u : Nat) : Motion := ⟨σ * (d : Int), σ * (u : Int)⟩

/-- Moving toward the reference. -/
def inward (σ : Int) (d u : Nat) : Motion := ⟨σ * (d : Int), -σ * (u : Int)⟩

namespace IsSide
variable {σ : Int}

theorem neg (hσ : IsSide σ) : IsSide (-σ) := by
  rcases hσ with rfl | rfl
  · exact .inr rfl
  · exact .inl rfl

theorem natAbs_mul (hσ : IsSide σ) (n : Nat) : (σ * (n : Int)).natAbs = n := by
  rcases hσ with rfl | rfl <;> simp

theorem signOf_mul (hσ : IsSide σ) {n : Nat} (hn : 0 < n) : signOf (σ * (n : Int)) = σ := by
  unfold signOf
  rcases hσ with rfl | rfl
  · rw [if_neg (by omega), if_pos (by omega)]
  · rw [if_neg (by omega), if_neg (by omega)]

/-- A lower speed keeps the sign of the one before, unless it is 0. -/
theorem signOf_mul_mul (hσ : IsSide σ) {n u : Nat} (h : n ≤ u) :
    signOf (σ * (u : Int)) * (n : Int) = σ * (n : Int) := by
  rcases Nat.eq_zero_or_pos u with rfl | hu
  · simp [Nat.le_zero.mp h]
  · rw [hσ.signOf_mul hu]

theorem mul_ne_zero (hσ : IsSide σ) {n : Nat} (hn : 0 < n) : σ * (n : Int) ≠ 0 := by
  rcases hσ with rfl | rfl <;> omega

theorem ne_neg (hσ : IsSide σ) : -σ ≠ σ := by rcases hσ with rfl | rfl <;> decide

end IsSide

/-- Every value lies on a side, at its size. -/
theorem exists_side (x : Int) : ∃ (σ : Int) (n : Nat), IsSide σ ∧ x = σ * (n : Int) := by
  rcases Int.le_total 0 x with h | h
  · exact ⟨1, x.natAbs, .inl rfl, by omega⟩
  · exact ⟨-1, x.natAbs, .inr rfl, by omega⟩

theorem signOf_cases (x : Int) :
    (x = 0 ∧ signOf x = 0) ∨ (0 < x ∧ signOf x = 1) ∨ (x < 0 ∧ signOf x = -1) := by
  unfold signOf
  split
  next h => exact .inl ⟨h, rfl⟩
  next h =>
    split
    next hpos => exact .inr (.inl ⟨hpos, rfl⟩)
    next hneg => exact .inr (.inr ⟨by omega, rfl⟩)

theorem signOf_isSide {x : Int} (h : x ≠ 0) : IsSide (signOf x) := by
  rcases signOf_cases x with ⟨h0, -⟩ | ⟨-, hs⟩ | ⟨-, hs⟩
  · exact absurd h0 h
  · exact .inl hs
  · exact .inr hs

theorem signOf_mul_natAbs (x : Int) : signOf x * (x.natAbs : Int) = x := by
  rcases signOf_cases x with ⟨h, hs⟩ | ⟨h, hs⟩ | ⟨h, hs⟩ <;> rw [hs] <;> omega

/-! ## The step rule (R95 to R98) -/

section StepRule
variable {a v d u : Nat} {σ : Int}

/-- Within a step of rest on the reference the axis comes to rest there (R95). -/
theorem stepRule_on_reference {w : Int} (h : w.natAbs ≤ a) : stepRule a v ⟨0, w⟩ = ⟨0, 0⟩ := by
  simp [stepRule, h]

theorem brake_outward (hσ : IsSide σ) (hu : 0 < u) : brake a (outward σ d u) = outward σ (d + (u - a)) (u - a) := by
  unfold brake outward
  dsimp only
  rw [hσ.signOf_mul hu, hσ.natAbs_mul, Int.natCast_add, Int.mul_add]

/-- An axis that moves away, or through the reference faster than it can stop, brakes (R95, R96). -/
theorem stepRule_outward (hσ : IsSide σ) (hu : 0 < u) (h : 0 < d ∨ a < u) :
    stepRule a v (outward σ d u) = outward σ (d + (u - a)) (u - a) := by
  rw [← brake_outward hσ hu]
  unfold stepRule
  rcases Nat.eq_zero_or_pos d with rfl | hd
  · have hfast : ¬(outward σ 0 u).w.natAbs ≤ a := by
      rw [show (outward σ 0 u).w = σ * (u : Int) from rfl, hσ.natAbs_mul]; omega
    rw [if_pos (by simp [outward]), if_neg hfast]
  · have haway : signOf (outward σ d u).w = signOf (outward σ d u).e :=
      (hσ.signOf_mul hu).trans (hσ.signOf_mul hd).symm
    have he : (outward σ d u).e ≠ 0 := hσ.mul_ne_zero hd
    have hw : (outward σ d u).w ≠ 0 := hσ.mul_ne_zero hu
    rw [if_neg he, if_pos ⟨hw, haway⟩]

/-- Braking from the speed `u` takes at most `u` instants and covers the braking distance of `u`. -/
theorem steps_outward (ha : 1 ≤ a) (hσ : IsSide σ) (hu : 0 < u) (h : 0 < d ∨ a < u) :
    ∃ n, n ≤ u ∧ steps a v n (outward σ d u) = outward σ (d + brakingDistance a u) 0 := by
  induction u using Nat.strongRecOn generalizing d with
  | _ u ih =>
    have hstep := stepRule_outward (v := v) hσ hu h
    rcases Nat.lt_or_ge a u with hau | hau
    · obtain ⟨n, hn, hrest⟩ := ih (u - a) (by omega) (d := d + (u - a)) (by omega) (.inl (by omega))
      refine ⟨n + 1, by omega, ?_⟩
      rw [steps, hstep, hrest, brakingDistance_of_lt ha hau, Nat.add_assoc]
    · refine ⟨1, hu, ?_⟩
      rw [steps, hstep, brakingDistance_eq_zero hau, Nat.sub_eq_zero_of_le hau]
      rfl

/-- A move toward the reference that does not pass it. -/
theorem moveAt_inward (hσ : IsSide σ) (hd : 0 < d) {s : Nat} (hs : s ≤ d) :
    moveAt s (inward σ d u) = inward σ (d - s) s := by
  unfold moveAt inward
  dsimp only
  rw [hσ.signOf_mul hd, Int.ofNat_sub hs, Int.mul_sub, Int.neg_mul, Int.sub_eq_add_neg]

/-- An axis off the reference that stands or moves toward it closes in (R97). -/
theorem stepRule_inward (hσ : IsSide σ) (hd : 0 < d) :
    stepRule a v (inward σ d u) =
      if u ≤ a ∧ d ≤ a then inward σ 0 d
      else if v < u then moveAt (u - a) (inward σ d u)
      else moveAt (chooseSpeed a v d u) (inward σ d u) := by
  have hcloses : ¬((inward σ d u).w ≠ 0 ∧ signOf (inward σ d u).w = signOf (inward σ d u).e) := by
    rintro ⟨hw, hs⟩
    rcases Nat.eq_zero_or_pos u with rfl | hu
    · exact hw (by simp [inward])
    · exact hσ.ne_neg ((hσ.neg.signOf_mul hu).symm.trans (hs.trans (hσ.signOf_mul hd)))
  have hsize : (inward σ d u).e.natAbs = d := hσ.natAbs_mul d
  have hspeed : (inward σ d u).w.natAbs = u := hσ.neg.natAbs_mul u
  have hsign : signOf (inward σ d u).e = σ := hσ.signOf_mul hd
  have he : (inward σ d u).e ≠ 0 := hσ.mul_ne_zero hd
  unfold stepRule
  rw [if_neg he, if_neg hcloses]
  unfold closeIn
  simp only [hsize, hspeed, hsign]
  simp [inward]

end StepRule

/-! ## The stop point of a freeze (R77, R101) -/

section StopPoint
variable {a v u : Nat} {σ : Int}

theorem canStop_iff {d s : Nat} : canStop a d s = true ↔ s + brakingDistance a s ≤ d := by simp [canStop]

/-- At the braking distance of its speed an axis has no candidate but to slow down. -/
theorem chooseSpeed_at_stopping_distance (ha : 1 ≤ a) (hu : 0 < u) (huv : u ≤ v) :
    chooseSpeed a v (brakingDistance a u) u = u - a := by
  have hbeyond : ∀ {s}, u ≤ s → canStop a (brakingDistance a u) s = false := fun {s} hs => by
    have := brakingDistance_mono ha hs
    rw [← Bool.not_eq_true, canStop_iff]
    omega
  simp [chooseSpeed, hbeyond (Nat.le_refl u), hbeyond (Nat.le_min.mpr ⟨Nat.le_add_right u a, huv⟩)]

/-- At the stop point of its speed an axis brakes by exactly a, to the stop point of the speed it has then. -/
theorem stepRule_at_stop_point (ha : 1 ≤ a) (hσ : IsSide σ) (u : Nat) :
    stepRule a v (inward σ (brakingDistance a u) u) = inward σ (brakingDistance a (u - a)) (u - a) := by
  rcases Nat.lt_or_ge a u with hau | hau
  · have hB := brakingDistance_of_lt ha hau
    have hd : 0 < brakingDistance a u := by omega
    have hmove : moveAt (u - a) (inward σ (brakingDistance a u) u) = inward σ (brakingDistance a (u - a)) (u - a) := by
      rw [moveAt_inward hσ hd (by omega), hB, Nat.add_sub_cancel_left]
    rw [stepRule_inward hσ hd, if_neg (by omega)]
    split
    next => exact hmove
    next hv => rw [chooseSpeed_at_stopping_distance ha (by omega) (Nat.le_of_not_lt hv), hmove]
  · have hrest : inward σ (brakingDistance a u) u = ⟨0, -σ * (u : Int)⟩ := by
      rw [brakingDistance_eq_zero hau]; simp [inward]
    rw [hrest, stepRule_on_reference (Nat.le_trans (Nat.le_of_eq (hσ.neg.natAbs_mul u)) hau), Nat.sub_eq_zero_of_le hau,
      brakingDistance_eq_zero (Nat.zero_le a)]
    simp [inward]

theorem steps_at_stop_point (ha : 1 ≤ a) (hσ : IsSide σ) (k u : Nat) :
    steps a v k (inward σ (brakingDistance a u) u) = inward σ (brakingDistance a (u - k * a)) (u - k * a) := by
  induction k generalizing u with
  | zero => simp [steps]
  | succ k ih => rw [steps, stepRule_at_stop_point ha hσ, ih, Nat.sub_sub, Nat.succ_mul, Nat.add_comm a]

/-- The residual a freeze leaves an axis is the braking distance of its speed, toward the reference. -/
theorem inward_of_travel (hσ : IsSide σ) (u : Nat) :
    (⟨-brakingTravel a (σ * (u : Int)), σ * (u : Int)⟩ : Motion) = inward (-σ) (brakingDistance a u) u := by
  rcases Nat.eq_zero_or_pos u with rfl | hu
  · simp [inward, brakingTravel, signOf, brakingDistance_eq_zero]
  · rw [brakingTravel, hσ.signOf_mul hu, hσ.natAbs_mul, inward, Int.neg_neg, Int.neg_mul]

end StopPoint

/-! ## The approach from rest (R97, R98, R100) -/

section Approach
variable {a v d u : Nat} {σ : Int}

/-- An axis off the reference that can still stop on it, and does not snap to it, chooses a speed at which it moves and
can still stop. -/
theorem chooseSpeed_spec (ha : 1 ≤ a) (hav : a ≤ v) (huv : u ≤ v) (hstop : brakingDistance a u ≤ d)
    (hfar : ¬(u ≤ a ∧ d ≤ a)) :
    1 ≤ chooseSpeed a v d u ∧ chooseSpeed a v d u ≤ v ∧
      chooseSpeed a v d u + brakingDistance a (chooseSpeed a v d u) ≤ d := by
  unfold chooseSpeed
  dsimp only
  split
  next hup =>
    obtain ⟨-, hup⟩ := Bool.and_eq_true_iff.mp hup
    exact ⟨by omega, Nat.min_le_right .., canStop_iff.mp hup⟩
  next hup =>
    have hpos : 0 < u := by
      refine Nat.pos_of_ne_zero fun h0 => hup ?_
      subst h0
      have hB := brakingDistance_eq_zero (Nat.le_refl a)
      rw [Nat.zero_add, Nat.min_eq_left hav, Bool.and_eq_true_iff, canStop_iff]
      exact ⟨decide_eq_true (by omega), by omega⟩
    split
    next hu => exact ⟨hpos, huv, canStop_iff.mp hu⟩
    next hu =>
      rw [canStop_iff] at hu
      have hau : a < u := Nat.lt_of_not_le fun hle => by
        have hB := brakingDistance_eq_zero hle
        omega
      have hB := brakingDistance_of_lt ha hau
      exact ⟨by omega, by omega, by omega⟩

/-- The approach of a motion at the distance `d`: it comes to rest on the reference in at most d + 1 instants, and never
leaves the way there. -/
def Approaches (a v : Nat) (σ : Int) (d : Nat) (m : Motion) : Prop :=
  ∃ n, n ≤ d + 1 ∧ steps a v n m = ⟨0, 0⟩ ∧ ∀ k, k ≤ n → ∃ r : Nat, r ≤ d ∧ (steps a v k m).e = σ * (r : Int)

/-- A step that leaves less of the way leaves an approach. -/
theorem Approaches.of_step {d' : Nat} {m : Motion} (hm : m.e = σ * (d : Int)) (hlt : d' < d)
    (h : Approaches a v σ d' (stepRule a v m)) : Approaches a v σ d m := by
  obtain ⟨n, hn, hrest, hway⟩ := h
  refine ⟨n + 1, by omega, hrest, fun k hk => ?_⟩
  cases k with
  | zero => exact ⟨d, Nat.le_refl d, hm⟩
  | succ k =>
    obtain ⟨r, hr, he⟩ := hway k (by omega)
    exact ⟨r, by omega, he⟩

/-- On the reference, within a step of rest. -/
theorem approaches_on_reference (hσ : IsSide σ) (h : u ≤ a) : Approaches a v σ 0 (inward σ 0 u) := by
  have hrest : stepRule a v (inward σ 0 u) = ⟨0, 0⟩ := by
    rw [show inward σ 0 u = ⟨0, -σ * (u : Int)⟩ by simp [inward]]
    exact stepRule_on_reference (Nat.le_trans (Nat.le_of_eq (hσ.neg.natAbs_mul u)) h)
  refine ⟨1, Nat.le_refl 1, hrest, fun k hk => ⟨0, Nat.le_refl 0, ?_⟩⟩
  obtain rfl | rfl : k = 0 ∨ k = 1 := by omega
  · rfl
  · rw [steps, hrest]; simp [steps]

/-- While it can still stop on the reference, an axis within its limits approaches it. -/
theorem approaches_inward (ha : 1 ≤ a) (hav : a ≤ v) (hσ : IsSide σ) (hd : 0 < d) (huv : u ≤ v)
    (hstop : brakingDistance a u ≤ d) : Approaches a v σ d (inward σ d u) := by
  induction d using Nat.strongRecOn generalizing u with
  | _ d ih =>
    by_cases hsnap : u ≤ a ∧ d ≤ a
    · refine .of_step (d' := 0) rfl hd ?_
      rw [stepRule_inward hσ hd, if_pos hsnap]
      exact approaches_on_reference hσ hsnap.2
    · obtain ⟨hmoves, hlimit, hstill⟩ := chooseSpeed_spec ha hav huv hstop hsnap
      have hstep : stepRule a v (inward σ d u) = inward σ (d - chooseSpeed a v d u) (chooseSpeed a v d u) := by
        rw [stepRule_inward hσ hd, if_neg hsnap, if_neg (Nat.not_lt.mpr huv), moveAt_inward hσ hd (by omega)]
      refine .of_step (d' := d - chooseSpeed a v d u) rfl (by omega) ?_
      rw [hstep]
      rcases Nat.eq_zero_or_pos (d - chooseSpeed a v d u) with h0 | hpos
      · rw [h0]
        refine approaches_on_reference hσ (Nat.le_of_not_lt fun hfast => ?_)
        have := brakingDistance_of_lt ha hfast
        omega
      · exact ih _ (by omega) hpos hlimit (by omega)

end Approach

/-! ## The change of the step (R99) -/

/-- The chosen speed differs from the present one by at most a. -/
theorem chooseSpeed_change {a v d u : Nat} (h : u ≤ v) : u - a ≤ chooseSpeed a v d u ∧ chooseSpeed a v d u ≤ u + a := by
  unfold chooseSpeed
  dsimp only
  split
  next => omega
  split
  next => omega
  next => omega

/-- Braking changes the step by at most a (R96). -/
theorem brake_change (a : Nat) (m : Motion) : ((brake a m).w - m.w).natAbs ≤ a := by
  unfold brake
  dsimp only
  rcases signOf_cases m.w with ⟨h, hs⟩ | ⟨h, hs⟩ | ⟨h, hs⟩ <;> rw [hs] <;> omega

/-- A move toward the reference changes the step by the difference of the speeds. -/
theorem moveAt_change {a s : Nat} {m : Motion} (hw : m.w = -signOf m.e * (m.w.natAbs : Int))
    (hlow : m.w.natAbs - a ≤ s) (hhigh : s ≤ m.w.natAbs + a) : ((moveAt s m).w - m.w).natAbs ≤ a := by
  unfold moveAt
  dsimp only
  rcases signOf_cases m.e with ⟨-, hs⟩ | ⟨-, hs⟩ | ⟨-, hs⟩ <;> rw [hs] at hw ⊢ <;> omega

/-- Closing in changes the step by at most a (R97, R98). -/
theorem closeIn_change {a v : Nat} {m : Motion} (hw : m.w = -signOf m.e * (m.w.natAbs : Int)) :
    ((closeIn a v m).w - m.w).natAbs ≤ a := by
  unfold closeIn
  dsimp only
  split
  next hsnap => exact moveAt_change (s := m.e.natAbs) hw (by omega) (by omega)
  split
  next => exact moveAt_change hw (by omega) (by omega)
  next hv =>
    obtain ⟨hlow, hhigh⟩ := chooseSpeed_change (a := a) (d := m.e.natAbs) (Nat.le_of_not_lt hv)
    exact moveAt_change hw hlow hhigh

/-- The step rule changes the step by at most a, whatever the limits. -/
theorem stepRule_change (a v : Nat) (m : Motion) : ((stepRule a v m).w - m.w).natAbs ≤ a := by
  unfold stepRule
  split
  next =>
    split
    next hslow => simpa using hslow
    next => exact brake_change a m
  split
  next => exact brake_change a m
  next he hcloses =>
    refine closeIn_change ?_
    rcases signOf_cases m.e with ⟨h0, -⟩ | ⟨-, hs⟩ | ⟨-, hs⟩
    · exact absurd h0 he
    all_goals
      rw [hs] at hcloses ⊢
      rcases signOf_cases m.w with ⟨hw, hsw⟩ | ⟨hw, hsw⟩ | ⟨hw, hsw⟩ <;> rw [hsw] at hcloses <;> omega

end Sys2Proof.Machine

namespace Sys2Proof.Proofs
open Sys2Proof.Machine

/-- Settles O41: the recurrence of the braking distance, and along it the instants of braking, away from the reference
and to the stop point. -/
theorem brakingFollowsTheBrakingDistance : Obligations.BrakingFollowsTheBrakingDistance := by
  refine ⟨fun a s ha => ⟨rfl, brakingDistance_eq_sum ha s, brakingDistance_eq_zero, brakingDistance_add ha s,
    brakingDistance_of_lt ha⟩, fun a v e w ha hw hcase => ?_, fun a v w ha => ?_⟩
  · have hσ := signOf_isSide hw
    have hspeed : 0 < w.natAbs := Int.natAbs_pos.mpr hw
    have hside : e = signOf w * (e.natAbs : Int) := by
      rcases signOf_cases w with ⟨h, hs⟩ | ⟨h, hs⟩ | ⟨h, hs⟩ <;> rw [hs] <;> omega
    have hm : (⟨e, w⟩ : Motion) = outward (signOf w) e.natAbs w.natAbs := by
      rw [outward, ← hside, signOf_mul_natAbs]
    have haway : 0 < e.natAbs ∨ a < w.natAbs := by omega
    refine ⟨?_, ?_⟩
    · rw [hm, stepRule_outward hσ hspeed haway, outward, Int.natCast_add, Int.mul_add, ← hside]
    · obtain ⟨n, hn, hrest⟩ := steps_outward (v := v) ha hσ hspeed haway
      exact ⟨n, hn, by rw [hm, hrest, outward]; simp⟩
  · obtain ⟨σ, u, hσ, rfl⟩ := exists_side w
    have hsteps : ∀ k, steps a v k ⟨-brakingTravel a (σ * (u : Int)), σ * (u : Int)⟩ =
        inward (-σ) (brakingDistance a (u - k * a)) (u - k * a) :=
      fun k => by rw [inward_of_travel hσ, steps_at_stop_point ha hσ.neg]
    rw [hσ.natAbs_mul]
    refine ⟨fun k => ?_, ?_⟩
    · dsimp only
      rw [hsteps, hσ.signOf_mul_mul (Nat.sub_le u _), inward_of_travel hσ]
    · rw [hsteps, Nat.sub_eq_zero_of_le (Nat.le_mul_of_pos_right _ ha), brakingDistance_eq_zero (Nat.zero_le a)]
      simp [inward]

/-- Settles O42, on the side of the reference the axis starts from. -/
theorem approachFromRestReachesTheReference : Obligations.ApproachFromRestReachesTheReference := by
  intro a v e ha hav
  obtain ⟨σ, d, hσ, rfl⟩ := exists_side e
  have happroach : Approaches a v σ d ⟨σ * (d : Int), 0⟩ := by
    rcases Nat.eq_zero_or_pos d with rfl | hd
    · exact ⟨0, Nat.zero_le _, by simp [steps], fun k hk => ⟨0, Nat.le_refl 0, by simp [Nat.le_zero.mp hk, steps]⟩⟩
    · have hm : (⟨σ * (d : Int), 0⟩ : Motion) = inward σ d 0 := by simp [inward]
      rw [hm]
      exact approaches_inward ha hav hσ hd (Nat.zero_le v) (by simp [brakingDistance_eq_zero])
  obtain ⟨n, hn, hrest, hway⟩ := happroach
  refine ⟨n, by rwa [hσ.natAbs_mul], hrest, fun k hk => ?_⟩
  obtain ⟨r, hr, hres⟩ := hway k hk
  dsimp only
  rw [hres]
  rcases hσ with rfl | rfl <;> omega

end Sys2Proof.Proofs
end

section
/-! The generator's step of one axis through the part's operations (R99): only the move of a demand instant changes it
while the axis is driven. -/

namespace Sys2Proof.Machine

/-- From `r` to `s` the profile stands, the axis has not come to be driven, and if it is driven its step stands. A lemma
named `…_step` says that an operation keeps this. -/
structure StepStands (a : Axis) (r s : State) : Prop where
  profile : s.traj.profile = r.traj.profile
  step : s.driven a = true → r.driven a = true ∧ (s.traj.axes.get a).w = (r.traj.axes.get a).w

namespace StepStands
variable {a : Axis} {r s t u : State}

theorem refl (s : State) : StepStands a s s := ⟨rfl, fun h => ⟨h, rfl⟩⟩

theorem trans (h : StepStands a r s) (k : StepStands a s t) : StepStands a r t where
  profile := k.profile.trans h.profile
  step ht := by
    obtain ⟨hs, hw⟩ := k.step ht
    obtain ⟨hr, hw'⟩ := h.step hs
    exact ⟨hr, hw.trans hw'⟩

/-- An operation on the axes of the trajectory unit that leaves the step. -/
theorem axes (h : StepStands a r s) (hd : t.drive = s.drive) (hp : t.traj.profile = s.traj.profile)
    (hw : (t.traj.axes.get a).w = (s.traj.axes.get a).w) : StepStands a r t :=
  h.trans ⟨hp, fun ht => ⟨by simpa only [State.driven, hd] using ht, hw⟩⟩

/-- An operation that moves neither the drive controller nor the profile and the axes of the trajectory unit. -/
theorem congr (h : StepStands a r s) (hd : t.drive = s.drive) (hp : t.traj.profile = s.traj.profile)
    (hx : t.traj.axes = s.traj.axes) : StepStands a r t :=
  h.axes hd hp (by rw [hx])

/-- The target controller's work, where the trajectory unit stands. -/
theorem work (h : StepStands a r s) (hwork : TargetWork s t) (ht : t.traj = s.traj) : StepStands a r t :=
  h.congr hwork.drive (by rw [ht]) (by rw [ht])

theorem iff {c : Prop} [Decidable c] (h : c → StepStands a r t) (k : ¬c → StepStands a r u) :
    StepStands a r (if c then t else u) := by
  split
  next hc => exact h hc
  next hc => exact k hc

theorem answer {c : Prop} [Decidable c] {x y : Answer} (h : c → StepStands a r x.state)
    (k : ¬c → StepStands a r y.state) : StepStands a r (if c then x else y).state := by
  split
  next hc => exact h hc
  next hc => exact k hc

/-- A fold of operations that keep it. -/
theorem fold {α : Type} {f : State → α → State} (hf : ∀ s x, StepStands a r s → StepStands a r (f s x)) (l : List α) :
    ∀ s, StepStands a r s → StepStands a r (l.foldl f s) := by
  induction l with
  | nil => exact fun _ h => h
  | cons x rest ih => exact fun s h => ih _ (hf s x h)

/-- A change of one axis that leaves it driven or not driven, as it was. -/
theorem modDrive {b : Axis} {f : DriveAxis → DriveAxis}
    (hf : (f (s.drive.get b)).state.driven = (s.drive.get b).state.driven) (h : StepStands a r s) :
    StepStands a r (s.modDrive b f) := by
  refine h.trans ⟨rfl, fun ht => ⟨?_, rfl⟩⟩
  rw [State.driven, State.modDrive_get] at ht
  split at ht
  next hab => rw [State.driven, hab, ← hf, ← hab]; exact ht
  next => exact ht

/-- A change of one axis in both controllers: if it is this axis, it is not driven then, or it was and keeps its step. -/
theorem modAxis {b : Axis} {f : DriveAxis → DriveAxis} {g : TrajectoryAxis → TrajectoryAxis}
    (hfg : b = a → (f (s.drive.get a)).state.driven = true →
      s.driven a = true ∧ (g (s.traj.axes.get a)).w = (s.traj.axes.get a).w) (h : StepStands a r s) :
    StepStands a r ((s.modDrive b f).modTraj b g) := by
  refine h.trans ⟨rfl, fun ht => ?_⟩
  simp only [State.driven, State.modTraj_drive, State.modDrive_get] at ht
  rw [State.modTraj_get, State.modDrive_traj]
  split at ht
  next hab => rw [if_pos hab]; exact hfg hab.symm ht
  next hab => rw [if_neg hab]; exact ⟨ht, rfl⟩

end StepStands

section Operations
variable {a : Axis} {r s : State}

/-! ## The list store and the target controller (01, 02) -/

theorem raise_step (src : NoticeSource) (h : StepStands a r s) : StepStands a r (raise src s) := h.congr rfl rfl rfl

theorem handOver_step (c : SlotContent) (h : StepStands a r s) : StepStands a r (handOver c s) := h.congr rfl rfl rfl

theorem removeWithOutcome_step (x : TargetRecord) (o : OutcomeKind) (e k : Nat) (h : StepStands a r s) :
    StepStands a r (removeWithOutcome x o e k s) :=
  h.work (removeWithOutcome_work ..) (noteEmpty_terms _).1

theorem closeTarget_step (o : OutcomeKind) (h : StepStands a r s) : StepStands a r (closeTarget o s) :=
  h.work (closeTarget_work ..) (closeTarget_terms o s).1

theorem moveTerms_step (dOffset dGuide : PerAxis Int) (h : StepStands a r s) :
    StepStands a r (moveTerms dOffset dGuide s) := h.axes rfl rfl (by cases a <;> rfl)

theorem startTarget_step (x : TargetRecord) (turns : Int) (h : StepStands a r s) :
    StepStands a r (startTarget x turns s) := by
  have hclear : StepStands a r (clearCorrections (dropWatch x.id (s.setList (activate x.id s.time.clock
      (decide (x.start + s.period < s.time.clock)) s.list)))) := moveTerms_step _ _ (h.congr rfl rfl rfl)
  exact hclear.congr rfl rfl rfl

theorem chooseStart_step (fuel : Nat) : ∀ {s : State}, StepStands a r s → StepStands a r (chooseStart fuel s) := by
  induction fuel with
  | zero => exact fun h => h
  | succ n ih =>
    intro s h
    unfold chooseStart
    split
    · exact h
    · refine .iff (fun _ => h) fun _ => ?_
      split
      · exact ih (raise_step _ (removeWithOutcome_step _ _ _ _ h))
      · exact startTarget_step _ _ (.iff (fun _ => closeTarget_step _ h) fun _ => h)

theorem startCheck_step (h : StepStands a r s) : StepStands a r (startCheck s) :=
  .iff (fun _ => chooseStart_step _ h) fun _ => h

theorem endTarget_step (o : OutcomeKind) (h : StepStands a r s) : StepStands a r (endTarget o s) := by
  have hs := startCheck_step (closeTarget_step o h)
  exact .iff (fun _ => handOver_step _ hs) fun _ => hs

theorem endIfActive_step (o : OutcomeKind) (h : StepStands a r s) : StepStands a r (endIfActive o s) :=
  .iff (fun _ => endTarget_step o h) fun _ => h

theorem endReport_step (o : OutcomeKind) (serial : Nat) (h : StepStands a r s) :
    StepStands a r (endReport o serial s) := .iff (fun _ => endIfActive_step o h) fun _ => h

theorem enterTrack_step (h : StepStands a r s) : StepStands a r (enterTrack s) :=
  .iff (fun _ => h.congr rfl rfl rfl) fun _ => h.congr rfl rfl rfl

theorem judgeSettle_step (h : StepStands a r s) : StepStands a r (judgeSettle s) := by
  unfold judgeSettle
  refine .iff (fun _ => ?_) fun _ => h.congr rfl rfl rfl
  split
  · exact h
  · exact .iff (fun _ => enterTrack_step h) fun _ => h.congr rfl rfl rfl

theorem arrivalReport_step (serial : Nat) (h : StepStands a r s) : StepStands a r (arrivalReport serial s) :=
  .iff (fun _ => judgeSettle_step (h.congr rfl rfl rfl)) fun _ => h

theorem trackingReport_step (b : Axis) (error : Int) (h : StepStands a r s) :
    StepStands a r (trackingReport b error s) :=
  .iff (fun _ => .iff (fun _ => judgeSettle_step (h.congr rfl rfl rfl)) fun _ => h.congr rfl rfl rfl) fun _ => h

theorem offsetMoved_step (h : StepStands a r s) : StepStands a r (offsetMoved s) := by
  refine h.work (offsetMoved_work s) ?_
  unfold offsetMoved
  split <;> rfl

theorem stopList_step (o : OutcomeKind) (h : StepStands a r s) : StepStands a r (stopList o s) :=
  handOver_step _ (endIfActive_step o (h.congr rfl rfl rfl))

theorem cutReport_step (h : StepStands a r s) : StepStands a r (cutReport s) := by
  unfold cutReport
  split
  · exact stopList_step _ h
  · exact stopList_step _ h
  · exact h
  · exact h

theorem stowRise_step (h : StepStands a r s) : StepStands a r (stowRise s) :=
  raise_step _ (handOver_step _ (endIfActive_step _ (h.congr rfl rfl rfl)))

theorem judgeStow_step (h : StepStands a r s) : StepStands a r (judgeStow s) :=
  .iff (fun _ => stowRise_step h) fun _ => h

theorem stowFall_step (h : StepStands a r s) : StepStands a r (stowFall s) :=
  .iff (fun _ => h.congr rfl rfl rfl) fun _ => h

/-! ## Corrections (06) -/

theorem changeStack_step (stack : List OffsetEntry) (change : PerAxis Int) (h : StepStands a r s) :
    StepStands a r (changeStack stack change s) := by
  have hs := moveTerms_step change (.all 0) (h.congr (t := s.setCorr { s.corr with stack := stack }) rfl rfl rfl)
  exact .iff (fun _ => hs) fun _ => offsetMoved_step hs

theorem takeSample_step (x : GuideFigures) (h : StepStands a r s) : StepStands a r (takeSample x s) := by
  have hs := moveTerms_step (.all 0) ⟨x.view.applied.1, x.view.applied.2, 0⟩ (h.congr (t := s.setCorr
    { s.corr with
      ring := x.ring, gAz := x.view.gAz, gEl := x.view.gEl
      lastGuide := some ⟨s.time.clock, x.view.applied.1, x.view.applied.2, x.view.flags⟩ }) rfl rfl rfl)
  exact .iff (fun _ => hs.congr rfl rfl rfl) fun _ => hs.congr rfl rfl rfl

/-! ## Drives (07) -/

theorem enterCut_step (c : CutSource) (b : Axis) (h : StepStands a r s) : StepStands a r (enterCut c b s) := by
  have hcut : StepStands a r ((s.modDrive b (cutDrive c)).modTraj b (holdAxis (s.drive.get b).lastActual)) :=
    h.modAxis fun _ hd => nomatch hd
  exact raise_step _ (cutReport_step hcut)

theorem chainCut_step (fuel : Nat) :
    ∀ (b : Axis) {s : State}, StepStands a r s → StepStands a r (chainCut fuel b s) := by
  induction fuel with
  | zero => exact fun _ _ h => h
  | succ n ih =>
    exact fun b s h => .fold (fun t c ht => .iff (fun _ => ih c (enterCut_step _ c ht)) fun _ => ht) (otherAxes b) s h

theorem cutOwn_step (c : CutSource) (b : Axis) (h : StepStands a r s) : StepStands a r (cutOwn c b s) :=
  .iff (fun _ => chainCut_step _ b (enterCut_step c b h)) fun _ => h

theorem cutByLine_step (c : CutSource) (h : StepStands a r s) : StepStands a r (cutByLine c s) :=
  .fold (fun _ b ht => chainCut_step _ b ht) _ _ (.fold (fun _ b ht => enterCut_step c b ht) _ s h)

/-- Another axis that becomes ON. -/
theorem enterOn_step {b : Axis} (hb : b ≠ a) (h : StepStands a r s) : StepStands a r (enterOn b s) := by
  have hs : StepStands a r ((s.modDrive b fun d => { d with state := .on, brakeTimer := none }).modTraj b driveAgain) :=
    h.modAxis fun hba => absurd hba hb
  exact .iff (fun _ => startCheck_step hs) fun _ => hs

/-- Another axis that is released. -/
theorem enterReleasing_step {b : Axis} (hb : b ≠ a) (h : StepStands a r s) :
    StepStands a r (enterReleasing b s) :=
  .iff (fun _ => enterOn_step hb (h.modAxis fun hba => absurd hba hb)) fun _ => h.modAxis fun hba => absurd hba hb

/-- A driven axis that stops keeps its step (R82). -/
theorem enterStopping_step {b : Axis} (hb : b = a → s.driven a = true) (h : StepStands a r s) :
    StepStands a r (enterStopping b s) :=
  h.modAxis fun hba _ => ⟨hb hba, rfl⟩

theorem enterOff_step (b : Axis) (h : StepStands a r s) : StepStands a r (enterOff b s) :=
  h.modAxis fun _ hd => nomatch hd

theorem atRest_step (b : Axis) (h : StepStands a r s) : StepStands a r (atRest b s) := by
  unfold atRest
  split
  next hst =>
    have hs := h.modDrive (b := b) (f := fun d =>
      { d with state := .stopping .setting, brake := false, brakeTimer := some (s.brakeFromNow b) }) (by rw [hst]; rfl)
    exact .iff (fun _ => enterOff_step b hs) fun _ => hs
  all_goals exact h

theorem followingRise_step (b : Axis) (h : StepStands a r s) : StepStands a r (followingRise b s) :=
  cutOwn_step _ b (h.modDrive rfl)

theorem judgeFollowing_step (b : Axis) (e : Int) (h : StepStands a r s) : StepStands a r (judgeFollowing b e s) :=
  .iff (fun _ => .iff (fun _ => h) fun _ => .iff (fun _ => followingRise_step b h) fun _ => h.modDrive rfl)
    fun _ => h.modDrive rfl

theorem captureReport_step (b : Axis) (e : TrackingError) (h : StepStands a r s) :
    StepStands a r (captureReport b e s) := by
  unfold captureReport
  split
  · exact h
  · exact .iff (fun _ => h.congr rfl rfl rfl) fun _ => h.congr rfl rfl rfl

theorem formError_step (b : Axis) (f : OpenFrame) (x : Int) (h : StepStands a r s) :
    StepStands a r (formError b f x s) :=
  captureReport_step _ _ (trackingReport_step _ _ (judgeFollowing_step _ _ (h.modDrive rfl)))

theorem countReply_step (b : Axis) (f : OpenFrame) (x : DriveReply) (h : StepStands a r s) :
    StepStands a r (countReply b f x s) := by
  have hcounted : StepStands a r (s.modDrive b (countedDrive x)) := h.modDrive rfl
  have hs : StepStands a r (if x.status = .fault ∧ (s.drive.get b).lastStatus ≠ some .fault then
      cutOwn .driveFault b (s.modDrive b (countedDrive x)) else s.modDrive b (countedDrive x)) :=
    .iff (fun _ => cutOwn_step _ b hcounted) fun _ => hcounted
  exact .iff (fun _ => formError_step b f _ hs) fun _ => hs

theorem judgeReply_step (b : Axis) (x : DriveReply) (h : StepStands a r s) : StepStands a r (judgeReply b x s) := by
  unfold judgeReply
  split
  · exact h
  · exact .iff (fun _ => countReply_step b _ x h) fun _ => h

theorem takeDriveCharacter_step (b : Axis) (char : Byte) (h : StepStands a r s) :
    StepStands a r (takeDriveCharacter b char s) := by
  unfold takeDriveCharacter
  dsimp only
  split
  · exact h.modDrive rfl
  · exact judgeReply_step b _ (h.modDrive rfl)

theorem silenceAxis_step (b : Axis) (h : StepStands a r s) : StepStands a r (silenceAxis s b) := by
  unfold silenceAxis
  dsimp only
  split
  · exact h
  · refine .iff (fun _ => cutOwn_step _ b ?_) fun _ => ?_ <;>
      exact .iff (fun _ => raise_step _ (h.modDrive rfl)) fun _ => h.modDrive rfl

theorem silenceCheck_step (h : StepStands a r s) : StepStands a r (silenceCheck s) :=
  .fold (fun _ b ht => silenceAxis_step b ht) _ s h

/-! ## Captures (08) -/

theorem acceptCandidate_traj (c : Candidate) (s : State) : (acceptCandidate c s).traj = s.traj := by
  unfold acceptCandidate openEdge closeEdge
  dsimp only
  split
  · split <;> rfl
  · split <;> rfl
  all_goals rfl

theorem acceptReady_step (h : StepStands a r s) : StepStands a r (acceptReady s) := by
  unfold acceptReady
  split
  · exact h
  · exact .iff (fun _ => h.work (acceptCandidate_work ..) (acceptCandidate_traj ..)) fun _ => h

theorem judgeLevel_step (level : Bool) (h : StepStands a r s) : StepStands a r (judgeLevel level s) := by
  unfold judgeLevel
  refine .iff (fun _ => h.congr rfl rfl rfl) fun _ => ?_
  split
  · exact .iff (fun _ => h) fun _ => h.congr rfl rfl rfl
  · exact h.congr rfl rfl rfl

theorem changeShutter_step (level : Bool) (h : StepStands a r s) : StepStands a r (changeShutter level s) := by
  have hs := judgeLevel_step level (acceptReady_step h)
  exact .iff (fun _ => acceptReady_step hs) fun _ => hs

/-! ## The reference at a demand instant (04): it moves residuals and bases, never a step -/

theorem freezeAxis_w (amax : Nat) (st : AxisState) (x : TrajectoryAxis) : (freezeAxis amax st x).w = x.w := by
  cases st <;> rfl

theorem stowAxis_w (value : Int) (st : AxisState) (x : TrajectoryAxis) : (stowAxis value st x).w = x.w := by
  cases st <;> rfl

theorem switchAxis_w (st : AxisState) (delta : Int) (x : TrajectoryAxis) : (switchAxis st delta x).w = x.w := by
  cases st <;> rfl

theorem trackAxis_w (value : Int) (st : AxisState) (x : TrajectoryAxis) : (trackAxis value st x).w = x.w := by
  unfold trackAxis; split <;> rfl

theorem rejoinAxis_w (st : AxisState) (x : TrajectoryAxis) : (rejoinAxis st x).w = x.w := by cases st <;> rfl

theorem adoptFreeze_step (h : StepStands a r s) : StepStands a r (adoptFreeze s) :=
  h.axes rfl rfl (by cases a <;> exact freezeAxis_w ..)

theorem adoptStow_step (values : PerAxis Int) (h : StepStands a r s) : StepStands a r (adoptStow values s) :=
  h.axes rfl rfl (by cases a <;> exact stowAxis_w ..)

theorem reportNodes_step (id n : Nat) : ∀ {s : State}, StepStands a r s → StepStands a r (reportNodes id n s) := by
  induction n with
  | zero => exact fun h => h
  | succ n ih => exact fun h => ih (h.congr rfl rfl rfl)

theorem switchNodes_step (t : Nat) (ns : List TrackNode) :
    ∀ (c : TrackContext) {s : State}, StepStands a r s → StepStands a r (switchNodes t ns c s) := by
  induction ns with
  | nil => exact fun _ _ h => h
  | cons n rest ih =>
    exact fun c s h =>
      .iff (fun _ => ih _ (h.axes rfl rfl (by cases a <;> exact switchAxis_w ..))) fun _ => h

theorem readLastTime_step (c : TrackContext) (h : StepStands a r s) : StepStands a r (readLastTime c s) := by
  unfold readLastTime
  split
  · exact h
  · split
    · exact h.congr rfl rfl rfl
    · exact h
    · exact h

theorem walkNodes_step (t : Nat) (h : StepStands a r s) : StepStands a r (walkNodes t s) := by
  unfold walkNodes
  split
  · exact h
  · exact h
  · split
    · exact h
    · exact readLastTime_step _ (switchNodes_step t _ _ h)

theorem adoptTrack_step (t id : Nat) (turns : Int) (h : StepStands a r s) :
    StepStands a r (adoptTrack t id turns s) := by
  unfold adoptTrack
  split
  · exact adoptFreeze_step h
  · split
    · exact adoptFreeze_step h
    · exact (reportNodes_step id _ h).axes rfl rfl (by cases a <;> exact (rejoinAxis_w ..).trans (trackAxis_w ..))

theorem adoptSlot_step (t : Nat) (h : StepStands a r s) : StepStands a r (adoptSlot t s) := by
  unfold adoptSlot
  split
  · exact h
  · dsimp only
    split
    · exact adoptTrack_step _ _ _ (h.congr rfl rfl rfl)
    · exact adoptFreeze_step (h.congr rfl rfl rfl)
    · exact adoptStow_step _ (h.congr rfl rfl rfl)

theorem evaluateBase_step (t : Nat) (h : StepStands a r s) : StepStands a r (evaluateBase t s) := by
  unfold evaluateBase
  split
  · exact h
  · exact h
  · exact h.axes rfl rfl (by cases a <;> exact trackAxis_w ..)

theorem evaluateReference_step (t : Nat) (h : StepStands a r s) : StepStands a r (evaluateReference t s).1 := by
  have hw := walkNodes_step t (adoptSlot_step t h)
  have hb := evaluateBase_step t hw
  unfold evaluateReference
  dsimp only
  split
  · exact adoptFreeze_step hw
  · split
    · exact raise_step _ (adoptFreeze_step hb)
    · exact hb

/-! ## The step of a demand instant (R95, R99) -/

/-- The step of a driven axis changes by at most the amax in force (R99). -/
theorem moveAxes_change (h : s.driven a = true) :
    (((moveAxes s).traj.axes.get a).w - (s.traj.axes.get a).w).natAbs ≤ (s.limits.get a).amax := by
  have hmove : ((moveAxes s).traj.axes.get a).w =
      (stepRule (s.limits.get a).amax (s.limits.get a).vmax
        ⟨(s.traj.axes.get a).e, (s.traj.axes.get a).w⟩).w := by
    unfold State.driven AxisState.driven at h
    rw [moveAxes, State.modAllTraj_get, moveAxis]
    split at h
    next hst => rw [hst]; rfl
    next hst => rw [hst]; rfl
    all_goals cases h
  rw [hmove]
  exact stepRule_change ..

/-- The frame of an instant leaves an axis's state. -/
theorem sendDrive_state (t : Nat) (x : TrajectoryAxis) (d : DriveAxis) : (sendDrive t x d).state = d.state := by
  unfold sendDrive; split <;> rfl

theorem sendFrames_step (t : Nat) (h : StepStands a r s) : StepStands a r (sendFrames t s) := by
  refine .iff (fun _ => h.trans ⟨rfl, fun hd => ⟨?_, rfl⟩⟩) fun _ => h
  rwa [State.driven, State.setDrive_drive, PerAxis.get_build, sendDrive_state] at hd

theorem reportRest_step (moved : State) (h : StepStands a r s) : StepStands a r (reportRest moved s) :=
  .fold (fun _ b ht => .iff (fun _ => atRest_step b ht) fun _ => ht) _ s h

theorem reportEnding_step (serial : Nat) (ending : Option OutcomeKind) (h : StepStands a r s) :
    StepStands a r (reportEnding serial ending s) := by
  unfold reportEnding
  split
  · exact h
  · exact endReport_step _ serial h

theorem reportArrival_step (moved : State) (h : StepStands a r s) : StepStands a r (reportArrival moved s) :=
  .iff (fun _ => arrivalReport_step _ (h.congr rfl rfl rfl)) fun _ => h

/-- What follows the move of the axes at an instant: the frames and the reports. -/
def afterMove (t : Nat) (ending : Option OutcomeKind) (s : State) : State :=
  let sent := sendFrames t s
  reportArrival sent (reportRest sent (reportEnding sent.traj.adoptedSerial ending sent))

theorem takeInstant_eq (t : Nat) (gust : Bool) (s : State) :
    takeInstant t gust s = afterMove t (evaluateReference t (beginInstant t gust s)).2
      (moveAxes (silenceCheck (evaluateReference t (beginInstant t gust s)).1)) := rfl

theorem afterMove_step (t : Nat) (ending : Option OutcomeKind) (h : StepStands a r s) :
    StepStands a r (afterMove t ending s) :=
  reportArrival_step _ (reportRest_step _ (reportEnding_step _ _ (sendFrames_step t h)))

theorem reportEnding_work (serial : Nat) (ending : Option OutcomeKind) (s : State) :
    TargetWork s (reportEnding serial ending s) := by
  unfold reportEnding
  split
  · exact .refl s
  · exact endReport_work ..

theorem reportRest_work (moved s : State) : DriveWork s (reportRest moved s) :=
  DriveWork.fold (fun t b => (atRest_work b t).iff (.refl t)) _ s

theorem reportArrival_work (moved s : State) : TargetWork s (reportArrival moved s) := by
  refine .iff (.trans ?_ (arrivalReport_work ..)) (.refl s)
  exact ⟨rfl, rfl, rfl, rfl, rfl, rfl⟩

theorem afterMove_work (t : Nat) (ending : Option OutcomeKind) (s : State) : DriveWork s (afterMove t ending s) :=
  (sendFrames_work t s).trans ((reportEnding_work ..).toDrive.trans
    ((reportRest_work ..).trans (reportArrival_work ..).toDrive))

/-- The limits in force depend on the profile and the image. -/
theorem State.limits_congr {s t : State} (hp : t.traj.profile = s.traj.profile) (hl : t.loader = s.loader) :
    t.limits = s.limits := by
  unfold State.limits
  rw [hp, State.image_congr hl]

/-- The step of an axis driven before and after an instant changes by at most the amax in force. -/
theorem takeInstant_change (t : Nat) (gust : Bool) (hafter : (takeInstant t gust s).driven a = true) :
    (((takeInstant t gust s).traj.axes.get a).w - (s.traj.axes.get a).w).natAbs ≤
      ((takeInstant t gust s).limits.get a).amax := by
  rw [takeInstant_eq] at hafter ⊢
  generalize hend : (evaluateReference t (beginInstant t gust s)).2 = ending at hafter ⊢
  have hbefore : StepStands a (beginInstant t gust s)
      (silenceCheck (evaluateReference t (beginInstant t gust s)).1) :=
    silenceCheck_step (evaluateReference_step t (.refl _))
  generalize silenceCheck (evaluateReference t (beginInstant t gust s)).1 = q at hbefore hafter ⊢
  have hmoved := afterMove_step t ending (.refl (a := a) (moveAxes q))
  obtain ⟨hq, hsame⟩ := hmoved.step hafter
  have hw : (q.traj.axes.get a).w = (s.traj.axes.get a).w := (hbefore.step hq).2
  have hlimits : (afterMove t ending (moveAxes q)).limits = q.limits :=
    State.limits_congr hmoved.profile (afterMove_work ..).loader
  rw [hsame, hlimits, ← hw]
  exact moveAxes_change hq

/-! ## Record expiry, start watches, PPS edges (03) -/

theorem expireRecords_step (rs : List TargetRecord) (h : StepStands a r s) : StepStands a r (expireRecords rs s) :=
  .fold (f := fun t _ => raise .targetEnded (startCheck t)) (fun _ _ ht => raise_step _ (startCheck_step ht)) _ _
    (.fold (fun _ _ ht => removeWithOutcome_step _ _ _ _ ht) _ _ h)

theorem expireIfDue_step (id : Nat) (h : StepStands a r s) : StepStands a r (expireIfDue id s) := by
  unfold expireIfDue
  split
  · exact h
  · exact .iff (fun _ => expireRecords_step _ h) fun _ => h

theorem judgeWatches_step (h : StepStands a r s) : StepStands a r (judgeWatches s) := by
  have hs := h.congr (t := s.modCtrl fun c =>
    { c with watches := c.watches.map fun w => { w with expired := decide (w.start ≤ s.time.clock) } }) rfl rfl rfl
  exact .iff (fun _ => startCheck_step hs) fun _ => hs

/-- An applied set moves the durations of the axes, not their states (R57). -/
theorem shiftDrives_step (delta : Int) (h : StepStands a r s) :
    StepStands a r (s.setDrive (s.drive.map (shiftDrive delta))) :=
  h.trans ⟨rfl, fun hd => ⟨by rwa [State.driven, State.setDrive_drive, PerAxis.get_map] at hd, rfl⟩⟩

theorem applySet_step (value : Nat) (h : StepStands a r s) : StepStands a r (applySet value s) := by
  have hs := shiftDrives_step ((value : Int) - s.time.clock) (h.congr (t := (s.setTime
    (setClock s.period value s.time)).modCtrl (shiftController ((value : Int) - s.time.clock))) rfl rfl rfl)
  exact judgeWatches_step (.iff (fun _ => expireRecords_step _ hs) fun _ => hs)

theorem ppsEdge_step (h : StepStands a r s) : StepStands a r (ppsEdge s) := by
  unfold ppsEdge
  split
  · exact applySet_step _ h
  · refine .iff (fun _ => h) fun _ => ?_
    unfold disciplineEdge
    exact .iff (fun _ => .iff (fun _ => h.congr rfl rfl rfl) fun _ => h.congr rfl rfl rfl) fun _ => h.congr rfl rfl rfl

/-! ## The site loader (11) -/

theorem runChecks_step (words : List Word) (h : StepStands a r s) : StepStands a r (runChecks words s) := by
  unfold runChecks
  split
  · refine judgeStow_step (h.trans ⟨rfl, fun hd => ⟨?_, rfl⟩⟩)
    cases a <;> exact hd
  · exact h.congr rfl rfl rfl

theorem endRead_step (bytes : List Byte) (h : StepStands a r s) : StepStands a r (endRead bytes s) := by
  unfold endRead
  split
  · exact h.congr rfl rfl rfl
  · exact .iff (fun _ => .iff (fun _ => h.congr rfl rfl rfl) fun _ => runChecks_step _ h) fun _ => h.congr rfl rfl rfl

/-- A driven axis is one that a cut-off source takes (R80, R143). -/
theorem AxisState.canCut_of_driven : ∀ {st : AxisState}, st.driven = true → st.canCut = true
  | .on, _ => rfl
  | .stopping _, _ => rfl

/-- RESTART comes with no axis RELEASING, ON or STOPPING (R194), and drives none. -/
theorem restartPart_step (hidle : ∀ b, (s.drive.get b).state.canCut = false) (h : StepStands a r s) :
    StepStands a r (restartPart s) := by
  refine judgeStow_step (h.trans ⟨rfl, fun hd => ?_⟩)
  have hstate : s.driven a = true := by cases a <;> exact hd
  have hcan := AxisState.canCut_of_driven hstate
  rw [hidle a] at hcan
  cases hcan

end Operations

end Sys2Proof.Machine
end

section
/-! The owning blocks' answers, each command, and the bound on the generator's step (R99). -/

namespace Sys2Proof.Machine

section Bodies
variable {a : Axis} {r s : State}

/-! ## The list store and the target controller -/

theorem addTargetBody_step (header : WireHeader) (wire : List WireNode) (h : StepStands a r s) :
    StepStands a r (addTargetBody header wire s).state := by
  have hwatch : ∀ x : TargetRecord, StepStands a r (watchRecord x (s.setList (addRecord x s.list))) := fun x => by
    rw [watchRecord_eq]
    exact .iff (fun _ => startCheck_step (h.congr rfl rfl rfl)) fun _ => h.congr rfl rfl rfl
  unfold addTargetBody
  dsimp only
  split
  · exact h
  split
  · exact h
  · exact .answer (fun _ => h) fun _ => .answer (fun _ => h) fun _ => .answer (fun _ => h) fun _ =>
      .answer (fun _ => h) fun _ => hwatch _

theorem appendNodesBody_step (id : Half) (wire : List WireNode) (h : StepStands a r s) :
    StepStands a r (appendNodesBody id wire s).state := by
  unfold appendNodesBody
  dsimp only
  split
  · exact h
  split
  · exact h
  · exact .answer (fun _ => h) fun _ => .answer (fun _ => h) fun _ => .answer (fun _ => h) fun _ => h.congr rfl rfl rfl

theorem deleteTargetBody_step (id : Half) (h : StepStands a r s) : StepStands a r (deleteTargetBody id s).state := by
  unfold deleteTargetBody
  split
  · exact h
  · split
    · exact h
    · exact startCheck_step (h.work (removeWithoutOutcome_work ..) (noteEmpty_terms _).1)

theorem readListBody_step (position : Byte) (h : StepStands a r s) : StepStands a r (readListBody position s).state :=
  .answer (fun _ => h) fun _ => h

theorem runBody_step (h : StepStands a r s) : StepStands a r (runBody s).state := by
  unfold runBody
  split
  · exact h
  · exact h
  all_goals
    split
    · exact h
    · exact startCheck_step (h.congr rfl rfl rfl)

theorem holdBody_step (h : StepStands a r s) : StepStands a r (holdBody s).state := by
  unfold holdBody
  split
  · exact h.congr rfl rfl rfl
  all_goals exact h

theorem stopBody_step (h : StepStands a r s) : StepStands a r (stopBody s).state := by
  unfold stopBody
  split
  · exact stopList_step _ h
  · exact stopList_step _ h
  · exact h
  · exact h

theorem abortBody_step (id : Half) (h : StepStands a r s) : StepStands a r (abortBody id s).state :=
  .answer (fun _ => h) fun _ => .answer (fun _ => h) fun _ => endTarget_step _ h

theorem releaseBody_step (id : Half) (h : StepStands a r s) : StepStands a r (releaseBody id s).state :=
  .answer (fun _ => h) fun _ => .answer (fun _ => h) fun _ => .answer (fun _ => h) fun _ => endTarget_step _ h

/-! ## The other blocks -/

theorem setTimeBody_step (time : SiteTimeWord) (h : StepStands a r s) : StepStands a r (setTimeBody time s).state :=
  .answer (fun _ => h) fun _ => .answer (fun _ => h) fun _ => h.congr rfl rfl rfl

theorem readPredictBody_step (lead : Half) (h : StepStands a r s) : StepStands a r (readPredictBody lead s).state :=
  .answer (fun _ => h) fun _ => h

theorem guideSampleBody_step (dx dy : Half) (h : StepStands a r s) : StepStands a r (guideSampleBody dx dy s).state :=
  .answer (fun _ => h) fun _ => .answer (fun _ => h) fun _ => takeSample_step _ h

theorem pushOffsetBody_step (dx dy drot : Word) (h : StepStands a r s) :
    StepStands a r (pushOffsetBody dx dy drot s).state :=
  .answer (fun _ => h) fun _ => .answer (fun _ => h) fun _ => .answer (fun _ => h) fun _ =>
    .answer (fun _ => h) fun _ => changeStack_step _ _ h

theorem popOffsetBody_step (h : StepStands a r s) : StepStands a r (popOffsetBody s).state := by
  unfold popOffsetBody
  split
  · exact h
  split
  · exact h
  · exact changeStack_step _ _ h

theorem clearOffsetsBody_step (h : StepStands a r s) : StepStands a r (clearOffsetsBody s).state :=
  .answer (fun _ => h) fun _ => changeStack_step _ _ h

theorem setCutMaskBody_step (axis mask : Byte) (h : StepStands a r s) :
    StepStands a r (setCutMaskBody axis mask s).state := by
  unfold setCutMaskBody
  split
  · exact h
  next b _ => exact h.modDrive (b := b) (f := fun d => { d with cutMask := mask }) rfl

theorem setRoutingBody_step (source mask level : Byte) (h : StepStands a r s) :
    StepStands a r (setRoutingBody source mask level s).state := by
  unfold setRoutingBody
  split
  · exact h
  split
  · exact h
  · exact h.congr rfl rfl rfl

theorem setThresholdBody_step (p : Port) (threshold : Byte) (h : StepStands a r s) :
    StepStands a r (setThresholdBody p threshold s).state :=
  .answer (fun _ => h) fun _ => .answer (fun _ => h) fun _ => h.congr rfl rfl rfl

theorem storeWords_step (start : Nat) (new words : List Word) (length : Option Nat) (h : StepStands a r s) :
    StepStands a r (storeWords start new words length s).state :=
  .answer (fun _ => runChecks_step words h) fun _ => h.congr rfl rfl rfl

theorem siteWordsBody_step (start : Half) (new : List Word) (h : StepStands a r s) :
    StepStands a r (siteWordsBody start new s).state :=
  .answer (fun _ => h) fun _ => .answer (fun _ => h) fun _ =>
    .answer (fun _ => .answer (fun _ => storeWords_step _ _ _ _ h) fun _ => h.congr rfl rfl rfl)
      fun _ => storeWords_step _ _ _ _ h

theorem restartBody_step (h : StepStands a r s) : StepStands a r (restartBody s).state :=
  .answer (fun _ => h) fun hidle => restartPart_step (fun b => by
    simpa using List.any_eq_false.mp (Bool.not_eq_true _ ▸ hidle) b (by cases b <;> decide)) h

end Bodies

/-! ## ENABLE_AXES and DISABLE_AXES -/

section Enabling
variable {a : Axis} {r s : State}

/-- The axis stays driven, and its step stands. -/
def StaysDriven (a : Axis) (r s : State) : Prop := StepStands a r s ∧ s.driven a = true

/-- One axis becoming ON leaves the state of another. -/
theorem enterOn_driven {b : Axis} (hb : b ≠ a) : (enterOn b s).driven a = s.driven a := by
  have hstart : (enterOn b s).drive = (s.modDrive b fun d => { d with state := .on, brakeTimer := none }).drive := by
    unfold enterOn
    dsimp only
    split
    · exact (startCheck_work _).drive
    · rfl
  rw [State.driven, hstart, State.modDrive_get, if_neg hb.symm, State.driven]

/-- One axis released leaves the state of another. -/
theorem enterReleasing_driven {b : Axis} (hb : b ≠ a) : (enterReleasing b s).driven a = s.driven a := by
  unfold enterReleasing
  dsimp only
  split
  · rw [enterOn_driven hb, State.driven, State.modTraj_drive, State.modDrive_get, if_neg hb.symm, State.driven]
  · rw [State.driven, State.modTraj_drive, State.modDrive_get, if_neg hb.symm, State.driven]

/-- A driven axis that stops, or beside one that does, is driven still. -/
theorem enterStopping_driven (b : Axis) (h : s.driven a = true) : (enterStopping b s).driven a = true := by
  rw [enterStopping, State.driven, State.modTraj_drive, State.modDrive_get]
  split
  · rfl
  · exact h

/-- The axes that ENABLE_AXES releases are not driven. -/
theorem ne_of_mem_axesToRelease {mask : Byte} {b : Axis} (h : s.driven a = true) (hb : b ∈ axesToRelease mask s) :
    b ≠ a := by
  rintro rfl
  have hdown := (List.mem_filter.mp hb).2
  unfold State.driven at h
  cases hst : (s.drive.get b).state <;> simp [hst, AxisState.driven, AxisState.isDown] at h hdown

theorem enableAxesBody_step (mask : Byte) (h : StaysDriven a r s) : StaysDriven a r (enableAxesBody mask s).state := by
  unfold enableAxesBody
  split
  · exact h
  split
  · exact h
  split
  · exact h
  · refine List.foldlRecOn (axesToRelease mask s) _ h fun t ht b hb => ?_
    have hne := ne_of_mem_axesToRelease h.2 hb
    exact ⟨enterReleasing_step hne ht.1, (enterReleasing_driven hne).trans ht.2⟩

theorem disableAxesBody_step (mask : Byte) (h : StaysDriven a r s) :
    StaysDriven a r (disableAxesBody mask s).state := by
  unfold disableAxesBody
  split
  · exact h
  split
  · exact h
  · exact List.foldlRecOn (axesToStop mask s) _ h fun t ht b _ =>
      ⟨enterStopping_step (fun _ => ht.2) ht.1, enterStopping_driven b ht.2⟩

end Enabling

/-! ## Each command -/

section Commands
variable {a : Axis} {s : State}

/-- A served request keeps the generator's step when its block does. -/
theorem serve_step {c : Instr} {body : State → Answer} (hb : ∀ {t}, StepStands a s t → StepStands a s (body t).state) :
    StepStands a s (serve c body s) :=
  serve_keeps (fun _ _ _ ht => ht.congr rfl rfl rfl) (fun _ ht => raise_step _ ht) (fun _ _ _ _ _ ht => hb ht) (.refl s)

theorem serve_staysDriven {c : Instr} {body : State → Answer}
    (hb : ∀ {t}, StaysDriven a s t → StaysDriven a s (body t).state) (h : s.driven a = true) :
    StepStands a s (serve c body s) :=
  (serve_keeps (P := StaysDriven a s) (fun _ _ _ ht => ⟨ht.1.congr rfl rfl rfl, ht.2⟩)
    (fun _ ht => ⟨raise_step _ ht.1, ht.2⟩) (fun _ _ _ _ _ ht => hb ht) ⟨.refl s, h⟩).1

theorem takeCharacter_step (p : Port) (char : Byte) : StepStands a s (takeCharacter p char s) := by
  have hport : ∀ (t : State) p f, StepStands a s t → StepStands a s (t.modPort p f) :=
    fun _ _ _ ht => ht.congr rfl rfl rfl
  unfold takeCharacter
  dsimp only
  split
  · exact hport _ _ _ (.refl s)
  · exact sweepRefusals_keeps hport _ _
      (handOn_keeps hport (fun _ ht => raise_step _ ht) _ _ (hport _ _ _ (.refl s)))

/-- Power-on and RESET leave no axis driven. -/
theorem fresh_undriven (a : Axis) (latch : Bool) (lines : Lines) (queue : List Instr) :
    (State.fresh latch lines queue).driven a = false := by cases a <;> rfl

/-- Of the commands only a demand instant moves the step of a driven axis. -/
theorem exec_step (c : Instr) (hc : ∀ gust, c ≠ .demandInstant gust) (h : s.driven a = true) :
    ∃ t, exec c s = .next t ∧ (StepStands a s t ∨ t.driven a = false) := by
  have hs : StepStands a s s := .refl s
  cases c with
  | powerOn => exact ⟨_, rfl, .inr (fresh_undriven ..)⟩
  | resetAssert => exact ⟨_, rfl, .inr (fresh_undriven a s.loader.latch { s.lines with reset := true } s.pending)⟩
  | resetFall => exact ⟨_, rfl, .inr (fresh_undriven ..)⟩
  | configMemoryReadEnd bytes => exact ⟨_, rfl, .inl (.iff (fun _ => endRead_step bytes hs) fun _ => hs)⟩
  | portRateChange => exact ⟨_, rfl, .inl (.iff (fun _ => hs.congr rfl rfl rfl) fun _ => hs)⟩
  | linkCharacter port char => exact ⟨_, rfl, .inl (.iff (fun _ => hs) fun _ => takeCharacter_step port char)⟩
  | linkGapExpiry => exact ⟨_, rfl, .inl (.iff (fun _ => hs) fun _ => hs.congr rfl rfl rfl)⟩
  | replySent => exact ⟨_, rfl, .inl (.iff (fun _ => hs) fun _ => hs.congr rfl rfl rfl)⟩
  | addTarget _ _ header nodes => exact ⟨_, rfl, .inl (serve_step (addTargetBody_step header nodes))⟩
  | appendNodes _ _ id nodes => exact ⟨_, rfl, .inl (serve_step (appendNodesBody_step id nodes))⟩
  | deleteTarget _ _ id => exact ⟨_, rfl, .inl (serve_step (deleteTargetBody_step id))⟩
  | readList _ _ position => exact ⟨_, rfl, .inl (serve_step (readListBody_step position))⟩
  | readOutcomes => exact ⟨_, rfl, .inl (serve_step fun ht => ht)⟩
  | run => exact ⟨_, rfl, .inl (serve_step runBody_step)⟩
  | hold => exact ⟨_, rfl, .inl (serve_step holdBody_step)⟩
  | stop => exact ⟨_, rfl, .inl (serve_step stopBody_step)⟩
  | abort _ _ id => exact ⟨_, rfl, .inl (serve_step (abortBody_step id))⟩
  | release _ _ id => exact ⟨_, rfl, .inl (serve_step (releaseBody_step id))⟩
  | readSequence => exact ⟨_, rfl, .inl (serve_step fun ht => ht)⟩
  | setTime _ _ time => exact ⟨_, rfl, .inl (serve_step (setTimeBody_step time))⟩
  | readTime => exact ⟨_, rfl, .inl (serve_step fun ht => ht)⟩
  | readPointing => exact ⟨_, rfl, .inl (serve_step fun ht => ht)⟩
  | readPredict _ _ lead => exact ⟨_, rfl, .inl (serve_step (readPredictBody_step lead))⟩
  | forceGust => exact ⟨_, rfl, .inl (serve_step fun ht => ht.congr rfl rfl rfl)⟩
  | clearForce => exact ⟨_, rfl, .inl (serve_step fun ht => ht.congr rfl rfl rfl)⟩
  | guideSample _ _ dx dy => exact ⟨_, rfl, .inl (serve_step (guideSampleBody_step dx dy))⟩
  | guideReset => exact ⟨_, rfl, .inl (serve_step fun ht => ht.congr rfl rfl rfl)⟩
  | pushOffset _ _ dx dy drot => exact ⟨_, rfl, .inl (serve_step (pushOffsetBody_step dx dy drot))⟩
  | popOffset => exact ⟨_, rfl, .inl (serve_step popOffsetBody_step)⟩
  | clearOffsets => exact ⟨_, rfl, .inl (serve_step clearOffsetsBody_step)⟩
  | readCorrections => exact ⟨_, rfl, .inl (serve_step fun ht => ht)⟩
  | enableAxes _ _ mask => exact ⟨_, rfl, .inl (serve_staysDriven (enableAxesBody_step mask) h)⟩
  | disableAxes _ _ mask => exact ⟨_, rfl, .inl (serve_staysDriven (disableAxesBody_step mask) h)⟩
  | setCutMask _ _ axis mask => exact ⟨_, rfl, .inl (serve_step (setCutMaskBody_step axis mask))⟩
  | readAxes => exact ⟨_, rfl, .inl (serve_step fun ht => ht)⟩
  | readCaptures => exact ⟨_, rfl, .inl (serve_step fun ht => ht.congr rfl rfl rfl)⟩
  | readStatus => exact ⟨_, rfl, .inl (serve_step fun ht => ht)⟩
  | readNotices => exact ⟨_, rfl, .inl (serve_step fun ht => ht.congr rfl rfl rfl)⟩
  | setRouting _ _ source mask level => exact ⟨_, rfl, .inl (serve_step (setRoutingBody_step source mask level))⟩
  | setThreshold port _ threshold => exact ⟨_, rfl, .inl (serve_step (setThresholdBody_step port threshold))⟩
  | siteWords _ _ start words => exact ⟨_, rfl, .inl (serve_step (siteWordsBody_step start words))⟩
  | restart => exact ⟨_, rfl, .inl (serve_step restartBody_step)⟩
  | ppsEdge => exact ⟨_, rfl, .inl (.iff (fun _ => hs) fun _ => ppsEdge_step hs)⟩
  | ppsHoldEnd => exact ⟨_, rfl, .inl (.iff (fun _ => hs.congr rfl rfl rfl) fun _ => hs)⟩
  | pulseWatchExpiry => exact ⟨_, rfl, .inl (.iff (fun _ => hs.congr rfl rfl rfl) fun _ => hs)⟩
  | clockAtLargestValue => exact ⟨_, rfl, .inl (.iff (fun _ => hs.congr rfl rfl rfl) fun _ => hs)⟩
  | demandInstant gust => exact absurd rfl (hc gust)
  | driveReply axis chars =>
    exact ⟨_, rfl, .inl (.iff (fun _ => hs) fun _ =>
      .fold (fun _ b ht => takeDriveCharacter_step axis b ht) chars s hs)⟩
  | graceTimerExpiry axis => exact ⟨_, rfl, .inl (.iff (fun _ => followingRise_step axis hs) fun _ => hs)⟩
  | cutSourceRise =>
    exact ⟨_, rfl, .inl (.iff (fun _ => cutByLine_step _ (hs.congr rfl rfl rfl)) fun _ => hs.congr rfl rfl rfl)⟩
  | brakeTimerExpiryReleasing axis =>
    refine ⟨_, rfl, .inl (.iff (fun hdue => enterOn_step ?_ hs) fun _ => hs)⟩
    rintro rfl
    simp only [releasingDue, Bool.and_eq_true, beq_iff_eq] at hdue
    simp [State.driven, hdue.2.2, AxisState.driven] at h
  | brakeTimerExpirySetting axis => exact ⟨_, rfl, .inl (.iff (fun _ => enterOff_step axis hs) fun _ => hs)⟩
  | startWatchExpiry =>
    exact ⟨_, rfl, .inl (.iff (fun _ => startCheck_step (hs.congr rfl rfl rfl)) fun _ => hs)⟩
  | recordExpiry => exact ⟨_, rfl, .inl (.iff (fun _ => hs) fun _ => expireIfDue_step _ hs)⟩
  | settleHoldExpiry => exact ⟨_, rfl, .inl (.iff (fun _ => enterTrack_step hs) fun _ => hs)⟩
  | settleTimeoutExpiry => exact ⟨_, rfl, .inl (.iff (fun _ => endTarget_step _ hs) fun _ => hs)⟩
  | dwellExpiry => exact ⟨_, rfl, .inl (.iff (fun _ => endTarget_step _ hs) fun _ => hs)⟩
  | stowRise =>
    exact ⟨_, rfl, .inl (.iff (fun _ => stowRise_step (hs.congr rfl rfl rfl)) fun _ => hs.congr rfl rfl rfl)⟩
  | stowFall =>
    exact ⟨_, rfl, .inl (.iff (fun _ => stowFall_step (hs.congr rfl rfl rfl)) fun _ => hs.congr rfl rfl rfl)⟩
  | domeReadyChange level =>
    have hlevel := hs.congr (t := s.setLines { s.lines with domeReady := level }) rfl rfl rfl
    exact ⟨_, rfl, .inl (.iff (fun _ => .iff (fun _ => judgeSettle_step hlevel) fun _ => hlevel)
      fun _ => hlevel)⟩
  | shutterChange level =>
    exact ⟨_, rfl, .inl (.iff (fun _ => hs.congr rfl rfl rfl)
      fun _ => changeShutter_step level (hs.congr rfl rfl rfl))⟩
  | shutterCandidateAccepted => exact ⟨_, rfl, .inl (.iff (fun _ => hs) fun _ => acceptReady_step hs)⟩

/-- A demand instant moves the step of a driven axis by at most the amax in force. -/
theorem exec_demandInstant_change {t : State} {gust : Bool} (hexec : exec (.demandInstant gust) s = .next t)
    (ht : t.driven a = true) : ((t.traj.axes.get a).w - (s.traj.axes.get a).w).natAbs ≤ (t.limits.get a).amax := by
  obtain rfl := Host.Outcome.next.inj hexec
  revert ht
  split
  next => exact takeInstant_change _ gust
  next => simp

end Commands

end Sys2Proof.Machine

namespace Sys2Proof.Proofs
open Sys2Proof.Machine

/-- Settles O43: `StepStands` through every command, and at a demand instant through what comes before and after the move
of the axes, which is the step rule's. -/
theorem generatorStepChangesWithinAmax : Obligations.GeneratorStepChangesWithinAmax := by
  intro c s t a hexec hs ht
  dsimp only
  split
  next => exact exec_demandInstant_change hexec ht
  next hc =>
    obtain ⟨u, hu, hsteps⟩ := exec_step c hc hs
    obtain rfl : u = t := by rw [hu] at hexec; exact Host.Outcome.next.inj hexec
    rcases hsteps with hstands | hundriven
    · rw [(hstands.step ht).2, Int.sub_self, Int.natAbs_zero]
    · rw [hundriven] at ht
      cases ht

end Sys2Proof.Proofs
end

section
/-! The correction unit (06): what a guide sample and a change of the offset stack do, whole, and its requests. -/

namespace Sys2Proof.Machine

/-! ## The terms (R79) -/

section Terms
variable (d : Int) (s : State)

theorem moveAxisTerms_offset (b : Bool) (x : TrajectoryAxis) :
    moveAxisTerms b d 0 x = { x with offset := x.offset + d, e := if b = true then x.e - d else x.e } := by
  simp [moveAxisTerms]

theorem moveAxisTerms_guide (b : Bool) (x : TrajectoryAxis) :
    moveAxisTerms b 0 d x = { x with guide := x.guide + d, e := if b = true then x.e - d else x.e } := by
  simp [moveAxisTerms]

theorem moveAxisTerms_zero (b : Bool) (x : TrajectoryAxis) : moveAxisTerms b 0 0 x = x := by
  simp [moveAxisTerms]

/-- An offset change moves the offset term of each axis alone. -/
theorem moveTerms_offset (change : PerAxis Int) :
    moveTerms change (.all 0) s =
      { s with
        traj := { s.traj with
          axes := PerAxis.build fun a =>
            let x := s.traj.axes.get a
            { x with
              offset := x.offset + change.get a
              e := if s.driven a = true then x.e - change.get a else x.e } } } := by
  simp only [moveTerms, State.modAllTraj, PerAxis.get_all, moveAxisTerms_offset]
  rfl

/-- A guide change moves the guide terms of AZ and EL; ROT has none (R111). -/
theorem moveTerms_guide (az el : Int) :
    let moved := fun (a : Axis) (d : Int) =>
      let x := s.traj.axes.get a
      { x with guide := x.guide + d, e := if s.driven a = true then x.e - d else x.e }
    moveTerms (.all 0) ⟨az, el, 0⟩ s =
      { s with traj := { s.traj with axes := ⟨moved .az az, moved .el el, s.traj.axes.rot⟩ } } := by
  intro moved
  have haxes : (PerAxis.build fun a => moveAxisTerms (s.driven a) 0 (PerAxis.get ⟨az, el, 0⟩ a) (s.traj.axes.get a)) =
      ⟨moved .az az, moved .el el, s.traj.axes.rot⟩ := PerAxis.get_inj fun
    | .az => moveAxisTerms_guide az ..
    | .el => moveAxisTerms_guide el ..
    | .rot => moveAxisTerms_zero ..
  simp only [moveTerms, State.modAllTraj, PerAxis.get_all, haxes]
  rfl

end Terms

/-! ## The figures of a sample (R114 to R117) -/

theorem clampTo_eq (bound : Nat) (x : Int) : clampTo bound x = max (-(bound : Int)) (min (bound : Int) x) := by
  unfold clampTo
  split
  · omega
  · split <;> omega

theorem GuideFlags.any_iff (f : GuideFlags) :
    f.any = true ↔ f.secantCapped = true ∨ f.stepClamped = true ∨ f.saturated = true := by
  simp [GuideFlags.any, or_assoc]

/-! ## A sample taken (R118, R157) -/

theorem accounts_iff {c : Controller} {r : CaptureRecord} :
    accounts c r = true ↔ r.targetEnded = false ∧ r.targetId ≠ 0 ∧ c.activeId = r.targetId := by
  simp [accounts, and_assoc]

/-- The open record of the active target counts the sample, and no other. -/
theorem captureGuide_eq (s : State) :
    captureGuide s =
      { s with
        capture := { s.capture with
          fifo := s.capture.fifo.map fun r =>
            if r.closing = none ∧ r.targetEnded = false ∧ r.targetId ≠ 0 ∧ s.ctrl.activeId = r.targetId then
              { r with guideCount := holdUp16 r.guideCount }
            else r } } := by
  have hfifo : ∀ r : CaptureRecord,
      (if r.isOpen = true then
        if accounts s.ctrl r = true then { r with guideCount := holdUp16 r.guideCount } else r
      else r) =
      if r.closing = none ∧ r.targetEnded = false ∧ r.targetId ≠ 0 ∧ s.ctrl.activeId = r.targetId then
        { r with guideCount := holdUp16 r.guideCount }
      else r := fun r => by
    simp only [CaptureRecord.isOpen, Option.isNone_iff_eq_none, accounts_iff]
    by_cases hopen : r.closing = none
    · simp only [hopen, if_true, true_and]
    · rw [if_neg hopen, if_neg fun ⟨hc, _⟩ => hopen hc]
  simp only [captureGuide, modOpen, hfifo]
  rfl

/-- What an accepted sample leaves before GUIDE_LIMITED is judged (R118). -/
def sampled (x : GuideFigures) (s : State) : State :=
  let v := x.view
  captureGuide (countGuide s.ctrl.activeId (moveTerms (.all 0) ⟨v.applied.1, v.applied.2, 0⟩
    (s.setCorr
      { s.corr with
        ring := x.ring, gAz := v.gAz, gEl := v.gEl
        lastGuide := some ⟨s.time.clock, v.applied.1, v.applied.2, v.flags⟩ })))

theorem takeSample_eq (x : GuideFigures) (s : State) :
    takeSample x s =
      if x.view.flags.secantCapped = true ∨ x.view.flags.stepClamped = true ∨ x.view.flags.saturated = true then
        raise .guideLimited (sampled x s)
      else sampled x s := by
  simp only [← GuideFlags.any_iff]
  rfl

/-! ## GUIDE_SAMPLE (R113) -/

theorem guideSample_lenOk (dx dy : Half) :
    RequestKind.guideSample.lenOk ((bytes2 dx ++ bytes2 dy).length / 2) = true := by
  simp [RequestKind.lenOk, bytes2]

section GuideRequests
variable {dx dy : Half} {s : State}

theorem guideSampleBody_notTracking (hp : s.ctrl.phase ≠ .track) : guideSampleBody dx dy s = refuse s .notTracking :=
  if_pos hp

theorem guideSampleBody_guideOff (hp : s.ctrl.phase = .track) (hg : s.ctrl.options.guide = false) :
    guideSampleBody dx dy s = refuse s .guideOff := by
  simp [guideSampleBody, hp, hg]

theorem guideSampleBody_accepts (hp : s.ctrl.phase = .track) (hg : s.ctrl.options.guide = true) :
    guideSampleBody dx dy s =
      accept (takeSample (guideFigures s dx.toInt dy.toInt) s) (.guided (guideFigures s dx.toInt dy.toInt).view) := by
  simp [guideSampleBody, hp, hg]

end GuideRequests

/-! ## The offset stack (R121 to R125) -/

theorem skyInRange_iff {x : Int} : skyInRange x = true ↔ ¬3600000 < x.natAbs := by
  rw [skyInRange, within_iff, skyOffsetMax]
  omega

theorem skyOutOfRange_iff {x y z : Int} :
    (!(skyInRange x && skyInRange y && skyInRange z)) = true ↔
      3600000 < x.natAbs ∨ 3600000 < y.natAbs ∨ 3600000 < z.natAbs := by
  rw [Bool.not_eq_true', ← Bool.not_eq_true, Bool.and_eq_true, Bool.and_eq_true, skyInRange_iff, skyInRange_iff,
    skyInRange_iff]
  omega

theorem totalsOutOfRange_iff {range : Nat} {totals : PerAxis Int} :
    (!totalsInRange range totals) = true ↔ ¬∀ a, (totals.get a).natAbs ≤ range := by
  have hall : ∀ a, a ∈ allAxes := fun a => by cases a <;> decide
  simp [totalsInRange, hall]

theorem noTarget_iff {s : State} : (!s.targetActive) = true ↔ s.ctrl.phase = .none := by simp [State.targetActive]

/-- The controller after an offset-moved report (R40). -/
def resettle (now timeout : Nat) (c : Controller) : Controller :=
  match c.phase with
  | .none | .approach => c
  | .settle => { c with settleHold := none, settleTimeout := some timeout }
  | .track =>
    { c with
      phase := .settle
      trackedUs := match c.trackEntry with
        | some entry => c.trackedUs + (now - entry)
        | none => c.trackedUs
      trackEntry := none, settleHold := none, settleTimeout := some timeout }

theorem offsetMoved_eq (s : State) :
    offsetMoved s =
      { s with ctrl := resettle s.time.clock (s.time.clock + s.image.settleTimeoutMs * 1000) s.ctrl } := by
  cases hp : s.ctrl.phase <;>
    simp only [offsetMoved, resettle, hp, State.modCtrl, State.setCtrl, State.timeoutFromNow]
  case track => cases he : s.ctrl.trackEntry <;> simp only [trackedAt, hp, he]

/-- A stack change, whole; the controller hears of it when a total changed (R125). -/
theorem changeStack_eq (stack : List OffsetEntry) (change : PerAxis Int) (s : State) :
    changeStack stack change s =
      { s with
        corr := { s.corr with stack := stack }
        traj := { s.traj with
          axes := PerAxis.build fun a =>
            let x := s.traj.axes.get a
            { x with
              offset := x.offset + change.get a
              e := if s.driven a = true then x.e - change.get a else x.e } }
        ctrl :=
          if change = ⟨0, 0, 0⟩ then s.ctrl
          else resettle s.time.clock (s.time.clock + s.image.settleTimeoutMs * 1000) s.ctrl } := by
  by_cases hc : change = ⟨0, 0, 0⟩
  · rw [changeStack, moveTerms_offset, if_pos hc]
    exact if_pos hc
  · rw [changeStack, moveTerms_offset, if_neg hc]
    exact (if_neg hc).trans (offsetMoved_eq _)

/-! ## PUSH_OFFSET (R122) -/

theorem pushOffset_lenOk (dx dy drot : Word) :
    RequestKind.pushOffset.lenOk ((bytes4 dx ++ bytes4 dy ++ bytes4 drot).length / 2) = true := by
  simp [RequestKind.lenOk, bytes4]

section PushOffset
variable {dx dy drot : Word} {s : State}

theorem pushOffsetBody_badValue
    (hb : 3600000 < dx.toInt.natAbs ∨ 3600000 < dy.toInt.natAbs ∨ 3600000 < drot.toInt.natAbs) :
    pushOffsetBody dx dy drot s = refuse s .badValue :=
  if_pos (skyOutOfRange_iff.mpr hb)

/-- With every value in range, what is left to judge is the target and the room (R122 orders 2 to 5). -/
theorem pushOffsetBody_inRange
    (hb : ¬(3600000 < dx.toInt.natAbs ∨ 3600000 < dy.toInt.natAbs ∨ 3600000 < drot.toInt.natAbs)) :
    pushOffsetBody dx dy drot s =
      let entry := newEntry s dx.toInt dy.toInt drot.toInt
      let stack := entry :: s.corr.stack
      if s.ctrl.phase = .none then refuse s .notTracking
      else if 4 ≤ s.corr.stack.length then refuse s .stackFull
      else if (!totalsInRange s.image.offsetRange (stackTotals stack)) = true then refuse s .offsetRange
      else
        accept (changeStack stack entry.axes s) (.pushed stack.length entry.axes entry.capped (stackTotals stack)) :=
  (if_neg (mt skyOutOfRange_iff.mp hb)).trans (ite_congr (propext noTarget_iff) (fun _ => rfl) fun _ => rfl)

end PushOffset

/-! ## POP_OFFSET, CLEAR_OFFSETS (R123, R124) -/

section PopAndClear
variable {s : State}

theorem popOffsetBody_idle (hp : s.ctrl.phase = .none) : popOffsetBody s = refuse s .notTracking :=
  if_pos (noTarget_iff.mpr hp)

theorem popOffsetBody_empty (hp : s.ctrl.phase ≠ .none) (he : s.corr.stack = []) :
    popOffsetBody s = refuse s .stackEmpty := by
  simp [popOffsetBody, (targetActive_iff s).mpr hp, he]

theorem popOffsetBody_pops {top : OffsetEntry} {rest : List OffsetEntry} (hp : s.ctrl.phase ≠ .none)
    (he : s.corr.stack = top :: rest) :
    popOffsetBody s =
      accept (changeStack rest (negAxes top.axes) s) (.popped top rest.length (stackTotals rest)) := by
  simp [popOffsetBody, (targetActive_iff s).mpr hp, he]

theorem clearOffsetsBody_idle (hp : s.ctrl.phase = .none) : clearOffsetsBody s = refuse s .notTracking :=
  if_pos (noTarget_iff.mpr hp)

theorem clearOffsetsBody_clears (hp : s.ctrl.phase ≠ .none) :
    clearOffsetsBody s =
      accept (changeStack [] (negAxes (stackTotals s.corr.stack)) s) (.cleared s.corr.stack.length ⟨0, 0, 0⟩) :=
  if_neg (mt noTarget_iff.mp hp)

end PopAndClear

end Sys2Proof.Machine

namespace Sys2Proof.Proofs
open Sys2Proof.Machine

/-- Settles O44: the figures are those of `guideFigures`, its clamps as bounds, and `takeSample_eq` is the effect. -/
theorem guideRequestsFilterAndClamp : Obligations.GuideRequestsFilterAndClamp := by
  intro p tag s
  refine ⟨fun hu => ⟨fun dx dy => serve_unconfigured rfl (guideSample_lenOk dx dy) rfl hu,
    serve_unconfigured rfl rfl rfl hu⟩, fun dx dy hs => ?_, fun hs => serve_accepts rfl rfl hs rfl rfl⟩
  intro refuses ring fx fy m held cAz cEl gAz gEl dAz dEl flags moved taken
  have hl := guideSample_lenOk dx dy
  let s1 := received p (requestFrame .guideSample tag (bytes2 dx ++ bytes2 dy)) s
  refine ⟨fun hp => serve_refuses rfl hl hs (guideSampleBody_notTracking hp),
    fun hp hg => serve_refuses rfl hl hs (guideSampleBody_guideOff hp hg), fun hp hg => ?_⟩
  have hfigures : guideFigures s1 dx.toInt dy.toInt = ⟨ring, (fx, fy), (m.az, m.el), (dAz, dEl), flags, gAz, gEl⟩ := by
    simp only [guideFigures, clampTo_eq]
    rfl
  have htaken : sampled ⟨ring, (fx, fy), (m.az, m.el), (dAz, dEl), flags, gAz, gEl⟩ s1 = taken s1 := by
    rw [sampled, captureGuide_eq, moveTerms_guide]
    rfl
  refine serve_accepts rfl hl hs ((guideSampleBody_accepts (s := s1) hp hg).trans ?_) ?_
  · rw [hfigures, takeSample_eq, htaken]
  · split <;> rfl

/-- Settles O45: each accepted request is a stack change, which `changeStack_eq` gives whole. -/
theorem offsetRequestsMoveTheTerms : Obligations.OffsetRequestsMoveTheTerms := by
  intro p tag s resettled changed
  have hchanged : ∀ f stack change, changeStack stack change (received p f s) = changed stack change (received p f s) :=
    fun f stack change => changeStack_eq stack change (received p f s)
  refine ⟨fun hu => ⟨fun dx dy drot => serve_unconfigured rfl (pushOffset_lenOk dx dy drot) rfl hu,
    serve_unconfigured rfl rfl rfl hu, serve_unconfigured rfl rfl rfl hu⟩, fun dx dy drot hs => ?_, fun hs => ?_,
    fun hs => ?_⟩
  · intro payload refuses m axes stack bad fits
    have hl := pushOffset_lenOk dx dy drot
    let s1 := received p (requestFrame .pushOffset tag payload) s
    refine ⟨fun hb => serve_refuses rfl hl hs (pushOffsetBody_badValue hb), ?_⟩
    have hbody := fun hb : ¬bad => pushOffsetBody_inRange (s := s1) hb
    have hfits : (!totalsInRange s.image.offsetRange (stackTotals stack)) = true ↔ ¬fits := totalsOutOfRange_iff
    refine ⟨fun hb hp => ?_, fun hb hp hfull => ?_, fun hb hp hroom hout => ?_, fun hb hp hroom hfit => ?_⟩
    · exact serve_refuses rfl hl hs ((hbody hb).trans (if_pos hp))
    · exact serve_refuses rfl hl hs ((hbody hb).trans ((if_neg hp).trans (if_pos hfull)))
    · exact serve_refuses rfl hl hs ((hbody hb).trans
        ((if_neg hp).trans ((if_neg (Nat.not_le.mpr hroom)).trans (if_pos (hfits.mpr hout)))))
    · refine serve_accepts rfl hl hs ((hbody hb).trans ((if_neg hp).trans ((if_neg (Nat.not_le.mpr hroom)).trans
        ((if_neg fun hout => hfits.mp hout hfit).trans ?_)))) rfl
      rw [hchanged]
      rfl
  · let s1 := received p (requestFrame .popOffset tag []) s
    refine ⟨fun hp => serve_refuses rfl rfl hs (popOffsetBody_idle hp),
      fun hp he => serve_refuses rfl rfl hs (popOffsetBody_empty hp he), fun top rest hp he => ?_⟩
    refine serve_accepts rfl rfl hs ((popOffsetBody_pops (s := s1) hp he).trans ?_) rfl
    rw [hchanged]
    rfl
  · let s1 := received p (requestFrame .clearOffsets tag []) s
    refine ⟨fun hp => serve_refuses rfl rfl hs (clearOffsetsBody_idle hp), fun hp => ?_⟩
    refine serve_accepts rfl rfl hs ((clearOffsetsBody_clears (s := s1) hp).trans ?_) rfl
    rw [hchanged]
    rfl

end Sys2Proof.Proofs
end

section
/-! The capture unit (08): what the SHUTTER filter does with a level and with a candidate, and READ_CAPTURES. -/

namespace Sys2Proof.Machine

/-! ## Edges (R152 to R156) -/

section Edges
variable {s : State}

theorem openRecord_eq_none {fifo : List CaptureRecord} :
    openRecord fifo = none ↔ ∀ r ∈ fifo, r.closing ≠ none := by
  simp [openRecord, CaptureRecord.isOpen, List.find?_eq_none]

theorem modOpen_eq (f : CaptureRecord → CaptureRecord) (fifo : List CaptureRecord) :
    modOpen f fifo = fifo.map fun r => if r.closing = none then f r else r := by
  simp only [modOpen, CaptureRecord.isOpen, Option.isNone_iff_eq_none]

/-- A record opens at the new end (R152 to R154). -/
theorem openEdge_opens (edge : Nat) {now : Nat} (hv : s.isValid = true) (hnow : s.traj.lastInstant = some now) :
    openEdge edge s =
      { s with
        capture := { s.capture with
          fifo := (if 16 ≤ s.capture.fifo.length then s.capture.fifo.tail else s.capture.fifo) ++
            [{ serial := s.capture.nextSerial, openTime := edge, targetId := s.ctrl.activeId, phase := s.ctrl.phase
               instant := now, demands := s.traj.axes.map (·.issued), depth := s.corr.stack.length
               earlierLost := decide (16 ≤ s.capture.fifo.length), targetEnded := false, onTarget := 0
               guideCount := 0, closing := none }]
          nextSerial := if s.capture.nextSerial < 4294967295 then s.capture.nextSerial + 1 else 1
          collection := none } } := by
  have hstamp : stampInstant s = now := by simp only [stampInstant, hnow]
  simp only [openEdge, hv, hstamp, Bool.not_true, Bool.false_eq_true, if_false]
  rfl

theorem setLines_openEdge (edge : Nat) (v : Lines) (s : State) :
    (openEdge edge s).setLines v = openEdge edge (s.setLines v) := by
  simp only [openEdge, apply_ite (fun t : State => t.setLines v)]
  rfl

theorem setLines_closeEdge (edge duration : Nat) (v : Lines) (s : State) :
    (closeEdge edge duration s).setLines v = closeEdge edge duration (s.setLines v) := by
  simp only [closeEdge, State.setLines_capture]
  split <;> rfl

theorem closeEdge_disregarded (edge duration : Nat) (h : openRecord s.capture.fifo = none) :
    closeEdge edge duration s = s := by
  simp only [closeEdge, h]

/-- The open record closes (R156, R159). -/
theorem closeEdge_closes (edge duration : Nat) (h : openRecord s.capture.fifo ≠ none) :
    closeEdge edge duration s =
      raise .captureReady
        { s with
          capture := { s.capture with
            fifo := s.capture.fifo.map fun r =>
              if r.closing = none then { r with closing := some (edge, duration) } else r
            collection := none } } := by
  obtain ⟨r, hr⟩ := Option.ne_none_iff_exists'.mp h
  simp only [closeEdge, hr, modOpen_eq]
  rfl

end Edges

/-! ## A candidate accepted (R150, R151) -/

section Candidates
variable {s : State} {k : Candidate}

/-- No edge is accepted with the first level. -/
theorem acceptCandidate_unknown (h : s.capture.accepted = .unknown) :
    acceptCandidate k s =
      { s with capture := { s.capture with accepted := levelOf k.level, candidate := none } } := by
  simp only [acceptCandidate, h]
  rfl

theorem acceptCandidate_rise {since : Nat} (h : s.capture.accepted = .low) :
    acceptCandidate ⟨true, since⟩ s =
      openEdge (s.time.clock - s.image.filterUs)
        { s with capture := { s.capture with accepted := .high, candidate := none, edgeCount := since } } := by
  simp only [acceptCandidate, h]
  rfl

theorem acceptCandidate_fall {since : Nat} (h : s.capture.accepted = .high) :
    acceptCandidate ⟨false, since⟩ s =
      closeEdge (s.time.clock - s.image.filterUs) (since - s.capture.edgeCount)
        { s with capture := { s.capture with accepted := .low, candidate := none, edgeCount := since } } := by
  simp only [acceptCandidate, h]
  rfl

theorem acceptCandidate_clears (k : Candidate) (s : State) : (acceptCandidate k s).capture.candidate = none := by
  unfold acceptCandidate openEdge closeEdge
  dsimp only
  split
  · split <;> rfl
  · split <;> rfl
  all_goals rfl

/-- The filter accepts a candidate without a look at the lines. -/
theorem setLines_acceptCandidate (k : Candidate) (v : Lines) (s : State) :
    (acceptCandidate k s).setLines v = acceptCandidate k (s.setLines v) := by
  unfold acceptCandidate
  dsimp only [State.setLines_capture]
  split
  · exact setLines_openEdge ..
  · exact setLines_closeEdge ..
  all_goals rfl

theorem candidateReady_iff : candidateReady s k = true ↔ s.image.filterUs ≤ s.time.elapsed - k.since :=
  decide_eq_true_iff

theorem acceptReady_none (h : s.capture.candidate = none) : acceptReady s = s := by
  simp only [acceptReady, h]

theorem acceptReady_ready (h : s.capture.candidate = some k) (hk : s.image.filterUs ≤ s.time.elapsed - k.since) :
    acceptReady s = acceptCandidate k s := by
  simp only [acceptReady, h]
  exact if_pos (candidateReady_iff.mpr hk)

/-- A candidate that has not held for the interval goes on. -/
theorem acceptReady_waits
    (h : ∀ k, s.capture.candidate = some k → s.time.elapsed - k.since < s.image.filterUs) : acceptReady s = s := by
  cases hc : s.capture.candidate with
  | none => exact acceptReady_none hc
  | some k =>
    simp only [acceptReady, hc]
    exact if_neg (mt candidateReady_iff.mp (Nat.not_le.mpr (h k hc)))

theorem acceptReady_work (s : State) : TargetWork s (acceptReady s) := by
  unfold acceptReady
  split
  · exact .refl s
  · exact (acceptCandidate_work ..).iff (.refl s)

theorem setLines_acceptReady (v : Lines) (s : State) : (acceptReady s).setLines v = acceptReady (s.setLines v) := by
  unfold acceptReady
  rw [State.setLines_capture]
  split
  · rfl
  · rw [apply_ite (fun t : State => t.setLines v), setLines_acceptCandidate]
    rfl

/-- An accepted candidate leaves none to accept. -/
theorem acceptReady_acceptReady (s : State) : acceptReady (acceptReady s) = acceptReady s := by
  cases hc : s.capture.candidate with
  | none => rw [acceptReady_none hc, acceptReady_none hc]
  | some k =>
    by_cases hk : s.image.filterUs ≤ s.time.elapsed - k.since
    · rw [acceptReady_ready hc hk, acceptReady_none (acceptCandidate_clears k s)]
    · have hwait : acceptReady s = s := acceptReady_waits fun j hj => by
        obtain rfl : k = j := Option.some.inj (hc.symm.trans hj)
        exact Nat.not_le.mp hk
      rw [hwait, hwait]

end Candidates

/-! ## A level shown (R150) -/

section Levels
variable {s : State} {level : Bool}

theorem judgeLevel_returns (h : s.capture.accepted = levelOf level) :
    judgeLevel level s = { s with capture := { s.capture with candidate := none } } :=
  if_pos h.symm

theorem judgeLevel_begins (h : s.capture.accepted ≠ levelOf level) (hc : s.capture.candidate = none) :
    judgeLevel level s = { s with capture := { s.capture with candidate := some ⟨level, s.time.elapsed⟩ } } := by
  simp only [judgeLevel, if_neg (Ne.symm h), hc]
  rfl

theorem changeShutter_begins (hf : 0 < s.image.filterUs) (h : s.capture.accepted ≠ levelOf level)
    (hc : s.capture.candidate = none) :
    changeShutter level s = { s with capture := { s.capture with candidate := some ⟨level, s.time.elapsed⟩ } } := by
  simp only [changeShutter, acceptReady_none hc, judgeLevel_begins h hc]
  exact if_neg (Nat.ne_of_gt hf)

theorem changeShutter_returns (hf : 0 < s.image.filterUs) (h : s.capture.accepted = levelOf level)
    (hw : ∀ k, s.capture.candidate = some k → s.time.elapsed - k.since < s.image.filterUs) :
    changeShutter level s = { s with capture := { s.capture with candidate := none } } := by
  simp only [changeShutter, acceptReady_waits hw, judgeLevel_returns h]
  exact if_neg (Nat.ne_of_gt hf)

/-- With an interval of 0 the level that begins is accepted at once (log 21). -/
theorem changeShutter_atOnce (hf : s.image.filterUs = 0) (h : s.capture.accepted ≠ levelOf level)
    (hc : s.capture.candidate = none) :
    changeShutter level s =
      acceptReady { s with capture := { s.capture with candidate := some ⟨level, s.time.elapsed⟩ } } := by
  simp only [changeShutter, acceptReady_none hc, judgeLevel_begins h hc]
  exact if_pos hf

/-- A candidate that is due may as well have been accepted before the level is taken. -/
theorem changeShutter_acceptReady (level : Bool) (s : State) :
    changeShutter level (acceptReady s) = changeShutter level s := by
  have himage : (acceptReady s).image = s.image := by
    simp only [State.image, State.image?, (acceptReady_work s).loader]
  simp only [changeShutter, acceptReady_acceptReady, himage]

/-- The part with SHUTTER at a level. -/
def showing (level : Bool) (s : State) : State := s.setLines { s.lines with shutter := level }

theorem showing_acceptReady (level : Bool) (s : State) :
    showing level (acceptReady s) = acceptReady (showing level s) := by
  rw [showing, (acceptReady_work s).lines, setLines_acceptReady, showing]

theorem exec_shutterChange (level : Bool) (h : s.lines.reset = false) :
    exec (.shutterChange level) s = .next (changeShutter level (showing level s)) :=
  congrArg Host.Outcome.next (if_neg (Bool.eq_false_iff.mp h))

theorem exec_shutterCandidateAccepted (h : s.lines.reset = false) :
    exec .shutterCandidateAccepted s = .next (acceptReady s) :=
  congrArg Host.Outcome.next (if_neg (Bool.eq_false_iff.mp h))

end Levels

/-! ## READ_CAPTURES (R160) -/

theorem closedRecords_eq (fifo : List CaptureRecord) :
    closedRecords fifo = fifo.filter fun r => r.closing.isSome := by
  simp only [closedRecords, CaptureRecord.isOpen, Option.not_isNone]

theorem readCapturesBody_eq (s : State) :
    let closed := s.capture.fifo.filter fun r => r.closing.isSome
    let opened := s.capture.fifo.find? fun r => r.closing.isNone
    readCapturesBody s =
      accept { s with capture := { s.capture with fifo := closed.drop 4 ++ opened.toList } }
        (.captures (closed.length - 4) (opened.map fun r => (r.serial, r.openTime)) s.capture.accepted
          (closed.take 4)) := by
  simp only [readCapturesBody, closedRecords_eq, List.length_drop]
  rfl

end Sys2Proof.Machine

namespace Sys2Proof.Proofs
open Sys2Proof.Machine

/-- Settles O52: each clause is one branch of the filter, `acceptCandidate_rise` and `acceptCandidate_fall` giving the edges. -/
theorem capturesOpenCloseAndAreRead : Obligations.CapturesOpenCloseAndAreRead := by
  refine ⟨fun s hreset => ?_, fun p tag s hs => serve_accepts rfl rfl hs (readCapturesBody_eq _) rfl⟩
  intro c edge
  refine ⟨fun level hf ha hc => ?_, fun level hf ha hw => ?_, fun level k t hc hk ht => ?_, fun level hf ha hc => ?_,
    fun level since hc hk => ?_⟩
  · exact (exec_shutterChange level hreset).trans
      (congrArg _ (changeShutter_begins (s := showing level s) hf ha hc))
  · exact (exec_shutterChange level hreset).trans
      (congrArg _ (changeShutter_returns (s := showing level s) hf ha hw))
  · obtain rfl : acceptReady s = t := Host.Outcome.next.inj ((exec_shutterCandidateAccepted hreset).symm.trans ht)
    have hlines : (acceptReady s).lines.reset = false := (acceptReady_work s).lines ▸ hreset
    rw [exec_shutterChange level hreset, exec_shutterChange level hlines, showing_acceptReady,
      changeShutter_acceptReady]
  · exact (exec_shutterChange level hreset).trans
      ((congrArg _ (changeShutter_atOnce (s := showing level s) hf ha hc)).trans
        (Eq.symm (exec_shutterCandidateAccepted hreset)))
  · rw [exec_shutterCandidateAccepted hreset, acceptReady_ready hc hk]
    refine ⟨fun ha => ?_, fun hl ha hv now hnow => ?_, fun hl ha => ⟨fun ⟨r, hr, hopen⟩ => ?_, fun hshut => ?_⟩⟩
    · exact congrArg _ (acceptCandidate_unknown ha)
    · subst hl
      exact congrArg _ ((acceptCandidate_rise ha).trans (openEdge_opens _ hv hnow))
    · subst hl
      exact congrArg _ ((acceptCandidate_fall ha).trans
        (closeEdge_closes _ _ fun h => openRecord_eq_none.mp h r hr hopen))
    · subst hl
      exact congrArg _ ((acceptCandidate_fall ha).trans
        (closeEdge_disregarded _ _ (openRecord_eq_none.mpr hshut)))

end Sys2Proof.Proofs
end

section
/-! The notice unit (10): what a raise does, the order of a read, what a routing change removes, and its requests. -/

namespace Sys2Proof.Machine

/-! ## A raise (R182) -/

theorem mem_addSource {src x : NoticeSource} {l : List NoticeSource} : x ∈ addSource src l ↔ x ∈ l ∨ x = src := by
  induction l with
  | nil => simp [addSource]
  | cons y rest ih =>
    by_cases hlt : noticeNumber src < noticeNumber y
    · simp only [addSource, if_pos hlt, List.mem_cons, or_comm]
    · by_cases heq : y = src
      · subst heq
        simp [addSource, or_comm]
      · simp [addSource, hlt, heq, ih, or_assoc]

section Raise
variable {n : Notices} {src : NoticeSource}

theorem raiseIn_silent (h : (routingOf n.routing src).level = 0 ∨ (routingOf n.routing src).mask = 0) :
    raiseIn n src = n := if_pos h

/-- The source joins where its entry's mask selects the port, and every line is judged. -/
theorem raiseIn_heard (h : ¬((routingOf n.routing src).level = 0 ∨ (routingOf n.routing src).mask = 0)) :
    raiseIn n src =
      { n with
        ports := PerPort.build fun p =>
          judgePort n.routing
            { n.ports.get p with
              waiting :=
                if (routingOf n.routing src).mask.getLsbD (portNumber p) = true then
                  addSource src (n.ports.get p).waiting
                else (n.ports.get p).waiting } } := by
  refine (if_neg h).trans ?_
  simp only [judgeAttention, PerPort.get_build, Notices.mk.injEq, true_and]
  congr 1
  funext p
  split <;> rfl

variable (n src) (p : Port)

theorem raiseIn_routing : (raiseIn n src).routing = n.routing := by
  by_cases h : (routingOf n.routing src).level = 0 ∨ (routingOf n.routing src).mask = 0
  · rw [raiseIn_silent h]
  · rw [raiseIn_heard h]

theorem raiseIn_threshold : ((raiseIn n src).ports.get p).threshold = (n.ports.get p).threshold := by
  by_cases h : (routingOf n.routing src).level = 0 ∨ (routingOf n.routing src).mask = 0
  · rw [raiseIn_silent h]
  · rw [raiseIn_heard h, PerPort.get_build]
    rfl

/-- A mask of 0 selects no port, so the raise's own exception for it says nothing more (R182). -/
theorem mem_raiseIn_waiting (x : NoticeSource) :
    x ∈ ((raiseIn n src).ports.get p).waiting ↔
      x ∈ (n.ports.get p).waiting ∨
      (x = src ∧ (routingOf n.routing src).level ≠ 0 ∧
        (routingOf n.routing src).mask.getLsbD (portNumber p) = true) := by
  by_cases h : (routingOf n.routing src).level = 0 ∨ (routingOf n.routing src).mask = 0
  · rw [raiseIn_silent h]
    rcases h with hlevel | hmask
    · simp [hlevel]
    · simp [hmask]
  · rw [raiseIn_heard h, PerPort.get_build]
    have hlevel : (routingOf n.routing src).level ≠ 0 := fun hl => h (.inl hl)
    cases hbit : (routingOf n.routing src).mask.getLsbD (portNumber p) with
    | true => simp [judgePort, mem_addSource, hlevel]
    | false => simp [judgePort]

end Raise

/-! ## READ_NOTICES (R184) -/

section Reading
variable {routing : List RoutingEntry} {sources : List NoticeSource} {level : Nat}

theorem mem_atLevel {x : NoticeSource × Nat} :
    x ∈ atLevel routing sources level ↔ x.1 ∈ sources ∧ (routingOf routing x.1).level = level ∧ x.2 = level := by
  obtain ⟨src, l⟩ := x
  simp only [atLevel, List.mem_map, List.mem_filter, beq_iff_eq, Prod.mk.injEq]
  constructor
  · rintro ⟨y, ⟨hy, hlevel⟩, rfl, rfl⟩
    exact ⟨hy, hlevel, rfl⟩
  · rintro ⟨hsrc, hlevel, rfl⟩
    exact ⟨src, ⟨hsrc, hlevel⟩, rfl, rfl⟩

theorem mem_byLevel {x : NoticeSource × Nat} :
    x ∈ byLevel routing sources ↔ x.1 ∈ sources ∧ x.2 = (routingOf routing x.1).level ∧ x.2 ≤ 3 := by
  simp only [byLevel, List.mem_append, mem_atLevel]
  constructor
  · rintro (((⟨hm, hl, hx⟩ | ⟨hm, hl, hx⟩) | ⟨hm, hl, hx⟩) | ⟨hm, hl, hx⟩) <;> exact ⟨hm, by omega, by omega⟩
  · rintro ⟨hm, hl, hx⟩
    simp only [hm, true_and]
    omega

/-- The order of a read: a higher level first, and in a level the lower number (R184). -/
def ReadsBefore (a b : NoticeSource × Nat) : Prop :=
  b.2 < a.2 ∨ (a.2 = b.2 ∧ noticeNumber a.1 < noticeNumber b.1)

theorem atLevel_pairwise (h : sources.Pairwise fun a b => noticeNumber a < noticeNumber b) (level : Nat) :
    (atLevel routing sources level).Pairwise ReadsBefore :=
  List.pairwise_map.mpr ((h.filter _).imp fun hab => .inr ⟨rfl, hab⟩)

theorem byLevel_pairwise (h : sources.Pairwise fun a b => noticeNumber a < noticeNumber b) :
    (byLevel routing sources).Pairwise ReadsBefore := by
  simp only [byLevel, List.pairwise_append, List.mem_append, mem_atLevel, atLevel_pairwise h, true_and]
  refine ⟨⟨?_, ?_⟩, ?_⟩ <;> exact fun a ha b hb => .inl (by omega)

end Reading

/-! ## SET_ROUTING (R185) -/

theorem sourceOf?_eq_none {b : Byte} (h : 11 < b.toNat) : sourceOf? b = none :=
  List.getElem?_eq_none h

theorem sourceOf?_eq_some {b : Byte} {src : NoticeSource} (h : b.toNat = noticeNumber src) : sourceOf? b = some src := by
  rw [sourceOf?, h]
  cases src <;> rfl

theorem setRouting_lenOk (source mask level : Byte) :
    RequestKind.setRouting.lenOk ([source, mask, level, 0].length / 2) = true := by
  simp [RequestKind.lenOk]

section SetRouting
variable {source mask level : Byte} {s : State}

theorem setRoutingBody_badValue (h : 11 < source.toNat ∨ 15 < mask.toNat ∨ 3 < level.toNat) :
    setRoutingBody source mask level s = refuse s .badValue := by
  unfold setRoutingBody
  cases hsrc : sourceOf? source with
  | none => rfl
  | some src =>
    have hrange : 15 < mask.toNat ∨ 3 < level.toNat :=
      h.resolve_left fun hnone => by simp [sourceOf?_eq_none hnone] at hsrc
    exact if_pos hrange

theorem setRoutingBody_accepts {src : NoticeSource} (hsrc : source.toNat = noticeNumber src) (hm : mask.toNat ≤ 15)
    (hl : level.toNat ≤ 3) :
    setRoutingBody source mask level s =
      accept (s.setNotice (reroute src ⟨mask.extractLsb' 0 4, level.toNat⟩ s.notice))
        (.routing (routingOf s.notice.routing src) ⟨mask.extractLsb' 0 4, level.toNat⟩) := by
  simp only [setRoutingBody, sourceOf?_eq_some hsrc]
  exact if_neg (by omega)

end SetRouting

/-- The lowest four bits of a byte hold the bit of each port. -/
theorem getLsbD_portNumber (mask : Byte) (p : Port) :
    (mask.extractLsb' 0 4).getLsbD (portNumber p) = mask.getLsbD (portNumber p) := by
  have hlt : portNumber p < 4 := by cases p <;> decide
  simp [hlt]

/-- What a routing change removes, with the request's own mask byte (R185 step 2). -/
theorem dropSource_eq (src : NoticeSource) (before : RoutingEntry) (mask : Byte) (level : Nat) (p : Port)
    (q : NoticePort) :
    dropSource src before ⟨mask.extractLsb' 0 4, level⟩ p q =
      { q with
        waiting :=
          if level = 0 ∨ (before.mask.getLsbD (portNumber p) = true ∧ mask.getLsbD (portNumber p) = false) then
            q.waiting.filter fun y => y != src
          else q.waiting } := by
  simp only [dropSource, getLsbD_portNumber, Bool.not_eq_true]
  split <;> rfl

theorem reroute_eq (src : NoticeSource) (after : RoutingEntry) (n : Notices) :
    reroute src after n =
      { routing := n.routing.set (noticeNumber src) after
        ports := PerPort.build fun p =>
          judgePort (n.routing.set (noticeNumber src) after)
            (dropSource src (routingOf n.routing src) after p (n.ports.get p)) } := by
  simp only [reroute, judgeAttention, PerPort.get_build]

/-! ## SET_THRESHOLD (R186) -/

theorem setThreshold_lenOk (threshold : Byte) : RequestKind.setThreshold.lenOk ([threshold, 0].length / 2) = true := by
  simp [RequestKind.lenOk]

section SetThreshold
variable {p : Port} {threshold : Byte} {s : State}

theorem setThresholdBody_notConfigured (h : s.isValid = false) :
    setThresholdBody p threshold s = refuse s .notConfigured := by
  simp [setThresholdBody, h]

theorem setThresholdBody_badValue (h : s.isValid = true) (hrange : 2 < threshold.toNat) :
    setThresholdBody p threshold s = refuse s .badValue := by
  simp [setThresholdBody, h, hrange]

theorem setThresholdBody_accepts (h : s.isValid = true) (hrange : threshold.toNat ≤ 2) :
    let q := judgePort s.notice.routing { s.notice.ports.get p with threshold := threshold.toNat }
    setThresholdBody p threshold s =
      accept (s.setNotice { s.notice with ports := s.notice.ports.set p q })
        (.threshold (s.notice.ports.get p).threshold threshold.toNat q.attention) := by
  simp [setThresholdBody, h, Nat.not_lt.mpr hrange]

end SetThreshold

end Sys2Proof.Machine

namespace Sys2Proof.Proofs
open Sys2Proof.Machine

/-- Settles O53: `mem_raiseIn_waiting` gives the raise, `byLevel` is the answer of a read, and `reroute_eq` with
`dropSource_eq` is the new routing; the refusals are the branches of the two bodies. -/
theorem noticesAreRoutedReadAndRerouted : Obligations.NoticesAreRoutedReadAndRerouted := by
  refine ⟨fun src x p s => ⟨rfl, raiseIn_routing _ _, raiseIn_threshold _ _ _, mem_raiseIn_waiting _ _ _ _⟩,
    fun p tag s hs => ⟨_, fun _ => mem_byLevel, fun hsound => byLevel_pairwise hsound, serve_accepts rfl rfl hs rfl rfl⟩,
    fun p tag source mask level s hu => serve_unconfigured rfl (setRouting_lenOk source mask level) rfl hu,
    fun p tag source mask level s hs => ?_, fun p tag threshold s hs => ?_⟩
  · have hl := setRouting_lenOk source mask level
    refine ⟨fun hbad => serve_refuses rfl hl hs (setRoutingBody_badValue hbad), fun src hsrc hmask hlevel => ?_⟩
    refine serve_accepts rfl hl hs ((setRoutingBody_accepts hsrc hmask hlevel).trans ?_) rfl
    simp only [reroute_eq, dropSource_eq]
    rfl
  · have hl := setThreshold_lenOk threshold
    exact ⟨fun hv => serve_refuses rfl hl hs (setThresholdBody_notConfigured hv),
      fun hv hbad => serve_refuses rfl hl hs (setThresholdBody_badValue hv hbad),
      fun hv hrange => serve_accepts rfl hl hs (setThresholdBody_accepts hv hrange) rfl⟩

end Sys2Proof.Proofs
end

section
/-! RESET (11): what the part holds while the line is asserted. -/

namespace Sys2Proof.Machine

/-! ## Commands while RESET is asserted (R188) -/

section Held
variable {s : State}

/-- From `s` to `t` nothing moves but levels of lines other than RESET and LOADSEL. -/
def LevelsAlone (s t : State) : Prop :=
  ∃ l : Lines, t = { s with lines := l } ∧ l.reset = s.lines.reset ∧ l.loadsel = s.lines.loadsel

theorem LevelsAlone.refl (s : State) : LevelsAlone s s := ⟨s.lines, rfl, rfl, rfl⟩

/-- A command guarded by RESET does not happen. -/
theorem LevelsAlone.guarded {t : State} (h : s.lines.reset = true) : LevelsAlone s (if s.heldInReset then s else t) := by
  rw [State.heldInReset, h]
  exact .refl s

/-- An event that is not due moves at most the level of its line. -/
theorem LevelsAlone.unheld {t u : State} {due : Bool} (hdue : due = false) (hu : LevelsAlone s u) :
    LevelsAlone s (if due then t else u) := by
  rwa [hdue]

theorem serve_held (c : Instr) (body : State → Answer) (h : s.lines.reset = true) :
    LevelsAlone s (serve c body s) := .guarded h

theorem setLevel_stands (l : Lines) (line : CutLine) (level : Bool) :
    (l.setLevel line level).reset = l.reset ∧ (l.setLevel line level).loadsel = l.loadsel := by
  cases line <;> exact ⟨rfl, rfl⟩

/-- While RESET is asserted only power-on and the line's own edges move more than levels. -/
theorem exec_held (c : Instr) (h : s.lines.reset = true) (ha : c ≠ .resetAssert)
    (hl : ∀ l, c ≠ .powerOn l ∧ c ≠ .resetFall l) : ∃ t, exec c s = .next t ∧ LevelsAlone s t := by
  have hs : LevelsAlone s s := .refl s
  have hnever : ∀ due, (!s.heldInReset && due) = false := fun due => by rw [State.heldInReset, h]; rfl
  have hneither : ∀ due due', (!s.heldInReset && due && due') = false := fun due due' => by rw [hnever]; rfl
  cases c with
  | powerOn l => exact absurd rfl (hl l).1
  | resetAssert => exact absurd rfl ha
  | resetFall l => exact absurd rfl (hl l).2
  | linkCharacter | linkGapExpiry | replySent | ppsEdge | driveReply | recordExpiry | shutterCandidateAccepted =>
    exact ⟨_, rfl, .guarded h⟩
  | configMemoryReadEnd | portRateChange | ppsHoldEnd | pulseWatchExpiry | clockAtLargestValue | graceTimerExpiry
  | brakeTimerExpiryReleasing | brakeTimerExpirySetting | startWatchExpiry | settleHoldExpiry | settleTimeoutExpiry
  | dwellExpiry => exact ⟨_, rfl, .unheld (hnever _) hs⟩
  | demandInstant | domeReadyChange => exact ⟨_, rfl, .unheld (hnever _) ⟨_, rfl, rfl, rfl⟩⟩
  | stowRise | stowFall => exact ⟨_, rfl, .unheld (hneither _ _) ⟨_, rfl, rfl, rfl⟩⟩
  | cutSourceRise line level =>
    obtain ⟨hr, hl⟩ := setLevel_stands s.lines line level
    exact ⟨_, rfl, .unheld (hneither _ _) ⟨_, rfl, hr, hl⟩⟩
  | shutterChange level =>
    refine ⟨_, rfl, ?_⟩
    rw [State.heldInReset, h]
    exact ⟨_, rfl, rfl, rfl⟩
  | addTarget | appendNodes | deleteTarget | readList | readOutcomes | run | hold | stop | abort | release | readSequence
  | setTime | readTime | readPointing | readPredict | forceGust | clearForce | guideSample | guideReset | pushOffset
  | popOffset | clearOffsets | readCorrections | enableAxes | disableAxes | setCutMask | readAxes | readCaptures
  | readStatus | readNotices | setRouting | setThreshold | siteWords | restart => exact ⟨_, rfl, serve_held _ _ h⟩

end Held

end Sys2Proof.Machine

namespace Sys2Proof.Proofs
open Sys2Proof.Machine

/-- Settles O4: the reset values are those of `State.fresh`, and what RESET holds is `exec_held`. -/
theorem resetStartsAfreshAndHolds : Obligations.ResetStartsAfreshAndHolds := by
  refine ⟨fun l s => ⟨rfl, rfl, _, rfl, rfl, fun a => ?_, fun p => ?_⟩, fun c s hreset ha hl => ?_⟩
  · cases a <;> exact ⟨rfl, rfl⟩
  · cases p <;> rfl
  · obtain ⟨t, ht, lines, rfl, hr, hsel⟩ := exec_held c hreset ha hl
    exact ⟨lines, hr.trans hreset, hsel, ht⟩

end Sys2Proof.Proofs
end

section
/-! The checks of the site image (11): what an image that passes holds, and which word a failure names. -/

namespace Sys2Proof.Machine

/-! ## The order of the field checks (R190 check 3) -/

section Checks
variable {words : List Word}

theorem sumOk_iff : sumOk words = true ↔ words.foldl (· + ·) 0 = 0 := beq_iff_eq

/-- The words that the field checks name, in the order they are judged. -/
def checkedWords : List Nat :=
  [1, 2, 3, 4, 5, 6, 7, 8, 10] ++ (List.range 36).map (fun i => 11 + i / 2) ++
  [29, 30, 31, 32, 33, 34, 35, 36, 37, 38, 39, 40] ++ [41, 42, 43, 44, 45, 46, 47, 48, 49, 50, 51, 52, 53, 54] ++
  (List.range 8).map (fun i => 55 + i / 2) ++ [59]

theorem pairChecks_words (first : Nat) (ok : List Bool) :
    (pairChecks first ok).map (·.1) = (List.range ok.length).map fun i => first + i / 2 := by
  have hzip : ((List.range ok.length).zip ok).map (·.1) = List.range ok.length :=
    List.map_fst_zip (Nat.le_of_eq List.length_range)
  have hplaces : (List.range ok.length).map (fun i => first + i / 2) =
      ((List.range ok.length).zip ok).map fun x => first + x.1 / 2 := by
    rw [← hzip, List.map_map, hzip]
    rfl
  rw [hplaces, pairChecks, List.map_map]
  rfl

theorem fieldChecks_words {image : SiteImage} (hh : image.horizon.length = 36) (hc : image.coefficients.length = 8) :
    (fieldChecks image).map (·.1) = checkedWords := by
  simp only [fieldChecks, limitChecks, axisChecks, allAxes, axisNumber, checkedWords, List.map_append, List.map_cons,
    List.map_nil, pairChecks_words, List.length_map, hh, hc, List.cons_append, List.nil_append, List.append_assoc]

@[simp] theorem halvesFrom_length (words : List Word) (n : Nat) : ∀ i, (halvesFrom words i n).length = 2 * n := by
  induction n with
  | zero => exact fun _ => rfl
  | succ n ih => exact fun i => congrArg (· + 2) (ih (i + 1))

theorem parseImage_lengths (words : List Word) :
    (parseImage words).horizon.length = 36 ∧ (parseImage words).coefficients.length = 8 ∧
      (parseImage words).routing.length = 12 := by
  simp [parseImage]

theorem checkedWords_sorted : checkedWords.Pairwise (· ≤ ·) := by decide

theorem checkedWords_range : ∀ i ∈ checkedWords, 1 ≤ i ∧ i ≤ 62 := by decide

theorem fieldChecks_range {image : SiteImage} (hh : image.horizon.length = 36) (hc : image.coefficients.length = 8) :
    ∀ x ∈ fieldChecks image, 1 ≤ x.1 ∧ x.1 ≤ 62 := by
  have hwords := checkedWords_range
  rw [← fieldChecks_words hh hc] at hwords
  exact List.forall_mem_map.mp hwords

/-- A field check that fails first is the least of those that fail. -/
theorem failed_least {c : Nat × Bool} (h : (fieldChecks (parseImage words)).find? (fun c => !c.2) = some c) :
    (c.1, false) ∈ fieldChecks (parseImage words) ∧
      ∀ x ∈ fieldChecks (parseImage words), x.2 = false → c.1 ≤ x.1 := by
  obtain ⟨i, ok⟩ := c
  obtain ⟨hh, hc, -⟩ := parseImage_lengths words
  obtain ⟨hbad, front, back, hsplit, hfront⟩ := List.find?_eq_some_iff_append.mp h
  obtain rfl : ok = false := by simpa using hbad
  have hsorted : ((fieldChecks (parseImage words)).map (·.1)).Pairwise (· ≤ ·) :=
    fieldChecks_words hh hc ▸ checkedWords_sorted
  rw [List.pairwise_map, hsplit, List.pairwise_append, List.pairwise_cons] at hsorted
  obtain ⟨-, ⟨hback, -⟩, -⟩ := hsorted
  rw [hsplit]
  refine ⟨by simp, fun x hx hfail => ?_⟩
  rcases List.mem_append.mp hx with hx | hx
  · simpa [hfail] using hfront x hx
  · rcases List.mem_cons.mp hx with rfl | hx
    · exact Nat.le_refl _
    · exact hback x hx

theorem checkImage_fail {i : Nat} (h : checkImage words = .fail i) :
    (words.foldl (· + ·) 0 ≠ 0 ∧ i = words.length - 1) ∨
      (words.foldl (· + ·) 0 = 0 ∧ ∃ c, (fieldChecks (parseImage words)).find? (fun c => !c.2) = some c ∧ c.1 = i) := by
  unfold checkImage at h
  split at h
  next hsum =>
    split at h
    · cases h
    next c hc => exact .inr ⟨sumOk_iff.mp hsum, c, hc, Verdict.fail.inj h⟩
  next hsum => exact .inl ⟨mt sumOk_iff.mpr hsum, (Verdict.fail.inj h).symm⟩

theorem checkImage_pass {image : SiteImage} (h : checkImage words = .pass image) :
    image = parseImage words ∧ words.foldl (· + ·) 0 = 0 ∧ ∀ c ∈ fieldChecks image, c.2 = true := by
  unfold checkImage at h
  split at h
  next hsum =>
    split at h
    next hall =>
      obtain rfl := Verdict.pass.inj h
      exact ⟨rfl, sumOk_iff.mp hsum, by simpa using hall⟩
    · cases h
  · cases h

end Checks

/-! ## The ranges of an image that passes (R189, R190) -/

theorem pairChecks_iff {first : Nat} {ok : List Bool} : (∀ c ∈ pairChecks first ok, c.2 = true) ↔ ∀ b ∈ ok, b = true := by
  have hmap : (pairChecks first ok).map (·.2) = ok := by
    rw [pairChecks, List.map_map]
    exact List.map_snd_zip (Nat.le_of_eq List.length_range.symm)
  have hall : (∀ b ∈ (pairChecks first ok).map (·.2), b = true) ↔ ∀ c ∈ pairChecks first ok, c.2 = true :=
    List.forall_mem_map
  rw [← hall, hmap]

theorem ceilDiv_le_iff {a b c : Nat} (hb : 0 < b) : ceilDiv a b ≤ c ↔ a ≤ c * b := by
  rw [ceilDiv, Nat.div_le_iff_le_mul_add_pred hb, Nat.mul_comm]
  omega

theorem axisChecks_iff {first : Nat} {f : Axis → Bool} : (∀ c ∈ axisChecks first f, c.2 = true) ↔ ∀ a, f a = true := by
  simp only [axisChecks, List.forall_mem_map]
  exact ⟨fun h a => h a (by cases a <;> simp [allAxes]), fun h a _ => h a⟩

theorem limitChecks_iff {i : Nat} {l : AxisLimits} :
    (∀ c ∈ limitChecks i l, c.2 = true) ↔ 1 ≤ l.amax ∧ l.amax ≤ l.vmax ∧ l.vmax ≤ 2097152 := by
  simp only [limitChecks, List.forall_mem_cons, List.not_mem_nil, false_imp_iff, implies_true, and_true, vmaxOk, amaxOk,
    Bool.and_eq_true, decide_eq_true_eq]
  omega

theorem ceilingOk_iff {periodMs ceiling amax : Nat} :
    ceilingOk periodMs ceiling amax = true ↔ ceiling ≤ 2147483647 ∧ ceiling * periodMs * 1000 ≤ amax * 256000000 := by
  simp only [ceilingOk, Bool.and_eq_true, decide_eq_true_eq, ceilDiv_le_iff (Nat.zero_lt_succ 255999999)]

theorem toleranceOk_iff {tolerance brakeMs : Nat} :
    toleranceOk tolerance brakeMs = true ↔ 1 ≤ tolerance ∧ tolerance ≤ 100000 ∧ brakeMs ≤ 2000 := by
  simp [toleranceOk, and_assoc]

theorem followOk_iff {limit : Nat} : followOk limit = true ↔ 1 ≤ limit ∧ limit ≤ 1000000 := by simp [followOk]

/-- The level of a routing entry has two bits (R189). -/
theorem parseImage_routing_level (words : List Word) : ∀ r ∈ (parseImage words).routing, r.level ≤ 3 := by
  intro r hr
  obtain ⟨source, -, rfl⟩ := List.mem_map.mp hr
  exact Nat.le_of_lt_succ (BitVec.isLt _)

end Sys2Proof.Machine

namespace Sys2Proof.Proofs
open Sys2Proof.Machine

/-- Settles O9: every field check of an image that passes holds, and each reads as the range of its field; a failure is the
first field check that fails (`failed_least`), at a word of `checkedWords`. -/
theorem passedImageIsWithinItsRanges : Obligations.PassedImageIsWithinItsRanges := by
  intro words
  obtain ⟨hhorizon, hcoefficients, hrouting⟩ := parseImage_lengths words
  refine ⟨fun image hpass => ?_, fun i hfail => ?_⟩
  · obtain ⟨rfl, hsum, hchecks⟩ := checkImage_pass hpass
    simp only [fieldChecks, List.forall_mem_append, pairChecks_iff, axisChecks_iff, limitChecks_iff,
      List.forall_mem_cons, List.not_mem_nil, false_imp_iff, implies_true, and_true, List.forall_mem_map,
      Bool.and_eq_true, decide_eq_true_eq, within_iff, ceilingOk_iff, toleranceOk_iff, followOk_iff, azSpan, quarterTurn,
      turn, halfTurn] at hchecks
    obtain ⟨⟨⟨⟨⟨⟨⟨⟨⟨⟨⟨⟨⟨⟨hperiod, hfilter, hports01, hports23, haz, ⟨haz', hspan⟩, hel, hel', hrot⟩, hsectors⟩,
      hcalmAz⟩, hcalmEl⟩, hcalmRot⟩, hgustAz⟩, hgustEl⟩, hgustRot⟩, hceilings⟩, htolerances⟩, hfollow⟩, hms, htimeout,
      hguider, hclamps, hstack⟩, hweights⟩, hstow⟩ := hchecks
    refine ⟨rfl, hsum, hperiod, hfilter, fun p => ?_, ⟨haz.1, haz'.2⟩, hspan, ⟨hel.1, hel'.1, ?_⟩, hrot,
      ⟨hhorizon, hsectors⟩, fun a => ?_, fun a => ?_, hceilings, fun a => ?_, hms, htimeout, ⟨hguider.1, ?_⟩, ?_,
      ?_, ⟨hcoefficients, hweights⟩, hstow, hrouting, parseImage_routing_level words⟩
    · cases p
      case p0 => exact hports01.1
      case p1 => exact hports01.2
      case p2 => exact hports23.1
      case p3 => exact hports23.2
    · exact of_decide_eq_true hel'.2
    · cases a
      case az => exact hcalmAz
      case el => exact hcalmEl
      case rot => exact hcalmRot
    · cases a
      case az => exact hgustAz
      case el => exact hgustEl
      case rot => exact hgustRot
    · obtain ⟨h1, h2, h3⟩ := htolerances a
      exact ⟨h1, h2, h3, hfollow a⟩
    · omega
    · omega
    · omega
  · rcases checkImage_fail hfail with hsum | ⟨hsum, c, hc, rfl⟩
    · exact .inl hsum
    · obtain ⟨hmem, hleast⟩ := failed_least hc
      obtain ⟨hlow, hhigh⟩ := fieldChecks_range hhorizon hcoefficients _ hmem
      exact .inr ⟨hsum, hlow, hhigh, hmem, hleast⟩

end Sys2Proof.Proofs
end

section
/-! The site loader (11): the words of a memory, the entry to VALID, and the verdict a load ends in. -/

namespace Sys2Proof.Machine

/-! ## The words of a memory (R189, R191) -/

@[simp] theorem wordsAt_length (bs : List Byte) (n : Nat) : ∀ i, (wordsAt bs i n).length = n := by
  induction n with
  | zero => exact fun _ => rfl
  | succ n ih => exact fun i => congrArg (· + 1) (ih (i + 4))

/-- Taking words from the front takes them from the same place. -/
theorem wordsAt_take (bs : List Byte) (m : Nat) : ∀ {n : Nat} (i : Nat), m ≤ n → (wordsAt bs i n).take m = wordsAt bs i m := by
  induction m with
  | zero => exact fun _ _ => rfl
  | succ m ih =>
    intro n i hle
    obtain ⟨n, rfl⟩ := Nat.exists_eq_succ_of_ne_zero (Nat.ne_zero_of_lt hle)
    exact congrArg (wordAt bs i :: ·) (ih (i + 4) (Nat.le_of_succ_le_succ hle))

/-- L of a header that passes (R190 check 1). -/
theorem imageLength_of_headerOk {header : Word} (h : headerOk header = true) :
    64 ≤ imageLength header ∧ imageLength header ≤ 256 := by
  simp only [headerOk, Bool.and_eq_true, decide_eq_true_eq] at h
  exact ⟨h.1.2, h.2⟩

/-! ## The end of the memory read (R191) -/

section MemoryRead
variable {bytes : List Byte} {s : State}

theorem endRead_empty (h : bytes.length < 4) : endRead bytes s = configFault .noMemory [] none s := by
  have hnone : bytes.length / 4 = 0 := Nat.div_eq_of_lt h
  rw [endRead, memoryWords, hnone]
  rfl

/-- A memory of at least one word is judged by its header, then by its length, then by the checks over L words. -/
theorem endRead_header (h : 4 ≤ bytes.length) :
    endRead bytes s =
      if headerOk (wordAt bytes 0) then
        if bytes.length < 4 * imageLength (wordAt bytes 0) then
          configFault .noMemory [] (some (imageLength (wordAt bytes 0))) s
        else runChecks (wordsAt bytes 0 (imageLength (wordAt bytes 0))) s
      else configFault (.image 0) [] none s := by
  obtain ⟨n, hn⟩ : ∃ n, bytes.length / 4 = n + 1 := Nat.exists_eq_succ_of_ne_zero (by omega)
  have hwords : memoryWords bytes = wordAt bytes 0 :: wordsAt bytes 4 n := by rw [memoryWords, hn]; rfl
  have hshort : (wordAt bytes 0 :: wordsAt bytes 4 n).length < imageLength (wordAt bytes 0) ↔
      bytes.length < 4 * imageLength (wordAt bytes 0) := by
    rw [List.length_cons, wordsAt_length]
    omega
  simp only [endRead, hwords, hshort]
  congr 1
  split
  · rfl
  next hlong => rw [← hwords, memoryWords, wordsAt_take bytes _ _ (by omega)]

/-- A read that is running ends (R191). -/
theorem exec_configMemoryReadEnd (hreset : s.lines.reset = false) (hload : s.loader.state = .loading)
    (hread : s.loader.reading = true) : exec (.configMemoryReadEnd bytes) s = .next (endRead bytes s) :=
  next_due hreset (by rw [readRunning, hload]; exact hread)

end MemoryRead

/-! ## The checks over L words (R190) -/

section Verdicts
variable {words : List Word} {s : State}

theorem runChecks_fail {i : Nat} (h : checkImage words = .fail i) :
    runChecks words s = configFault (.image i) words (some words.length) s := by
  rw [runChecks, h]

theorem runChecks_pass {image : SiteImage} (h : checkImage words = .pass image) :
    runChecks words s = becomeValid words image s := by
  rw [runChecks, h]

end Verdicts

/-! ## The entry to VALID (R193) -/

section Validity
variable {s : State}

theorem closeActive_listState (o : OutcomeKind) (s : State) : (closeActive o s).ctrl.listState = s.ctrl.listState := by
  unfold closeActive
  split
  · rfl
  · exact closeTarget_listState ..

/-- A rise of STOW enters STOW (R50). -/
theorem stowRise_listState (s : State) : (stowRise s).ctrl.listState = .stow := by
  rw [stowRise_eq]
  exact closeActive_listState ..

/-- The entry to VALID before the STOW line is judged. -/
def inForce (words : List Word) (image : SiteImage) (s : State) : State :=
  { s with
    loader := { s.loader with
      state := .valid image, words := words, nextIndex := words.length, length := some words.length, fault := .none
      reading := false }
    time := { s.time with nextInstant := realign (image.periodMs * 1000) s.time }
    link := PerPort.build fun p => { s.link.get p with rights := imageRights (image.ports.get p) }
    notice := imageNotices image s.notice
    drive := PerAxis.build fun a => { s.drive.get a with cutMask := image.cutMask.get a }
    corr := { s.corr with ring := zeroRing image.ringDepth } }

theorem becomeValid_eq (words : List Word) (image : SiteImage) (s : State) :
    becomeValid words image s = judgeStow (inForce words image s) := rfl

/-- The image's routing and thresholds, every line judged by them (R181). -/
theorem imageNotices_eq (image : SiteImage) (n : Notices) :
    imageNotices image n =
      { routing := image.routing
        ports := PerPort.build fun p =>
          judgePort image.routing { n.ports.get p with threshold := (image.ports.get p).threshold } } := by
  simp only [imageNotices, judgeAttention, PerPort.get_build]

/-- The entry moves the clock no more than the STOW edge does. -/
theorem becomeValid_time (words : List Word) (image : SiteImage) (s : State) :
    (becomeValid words image s).time = { s.time with nextInstant := realign (image.periodMs * 1000) s.time } :=
  (judgeStow_work (inForce words image s)).time

theorem becomeValid_loader (words : List Word) (image : SiteImage) (s : State) :
    (becomeValid words image s).loader = (inForce words image s).loader :=
  (judgeStow_work (inForce words image s)).loader

/-- The next multiple of a period is the least one strictly after the time (R65). -/
theorem nextMultiple_least {period : Nat} (hp : 0 < period) (t : Nat) :
    nextMultiple period t % period = 0 ∧ t < nextMultiple period t ∧
      ∀ m, m % period = 0 → t < m → nextMultiple period t ≤ m := by
  refine ⟨Nat.mul_mod_left .., Nat.lt_mul_of_div_lt (Nat.lt_succ_self _) hp, fun m hm hlt => ?_⟩
  obtain ⟨k, rfl⟩ := Nat.dvd_of_mod_eq_zero hm
  have hk : t / period < k := Nat.div_lt_of_lt_mul hlt
  rw [nextMultiple, Nat.mul_comm]
  exact Nat.mul_le_mul_left period hk

end Validity

end Sys2Proof.Machine

namespace Sys2Proof.Proofs
open Sys2Proof.Machine

/-- Settles O6: the bytes are judged by `endRead_empty` and `endRead_header`, and L words by their verdict. -/
theorem memoryReadEndsInItsVerdict : Obligations.MemoryReadEndsInItsVerdict := by
  intro bytes s hreset hload hread fails header words
  have hexec : exec (.configMemoryReadEnd bytes) s = .next (endRead bytes s) :=
    exec_configMemoryReadEnd hreset hload hread
  have hlength : words.length = imageLength header := wordsAt_length ..
  refine ⟨fun hshort => ?_, fun hfour hbad => ?_, fun hfour hok hshort => ?_, fun hok hlong => ?_⟩
  · rw [hexec, endRead_empty hshort]; rfl
  · rw [hexec, endRead_header hfour, if_neg (by simp [show headerOk (wordAt bytes 0) = false from hbad])]; rfl
  · rw [hexec, endRead_header hfour, if_pos hok, if_pos hshort]; rfl
  · have hfour : 4 ≤ bytes.length := by have := (imageLength_of_headerOk hok).1; omega
    have hchecked : exec (.configMemoryReadEnd bytes) s = .next (runChecks words s) := by
      rw [hexec, endRead_header hfour, if_pos hok, if_neg (Nat.not_lt.mpr hlong)]
    refine ⟨fun i hi => ?_, fun image hpass => ?_⟩
    · rw [hchecked, runChecks_fail hi, hlength]; rfl
    · rw [hchecked, runChecks_pass hpass]

/-- Settles O8: the entry is `inForce` with the STOW line judged, and the timer's instant is `nextMultiple_least`. -/
theorem entryToValidPutsTheImageInForce : Obligations.EntryToValidPutsTheImageInForce := by
  intro words image s t
  have hforce : inForce words image s = t := by
    unfold inForce
    rw [imageNotices_eq]
    rfl
  have hvalid : becomeValid words image s = if s.lines.stow = true then stowRise t else t := by
    rw [becomeValid_eq, hforce]
    rfl
  refine ⟨hvalid, fun hstow => ?_, fun hperiod hclock => ?_⟩
  · rw [hvalid, if_pos hstow, stowRise_listState]
  · refine ⟨nextMultiple (image.periodMs * 1000) s.time.clock, ?_, nextMultiple_least (by omega) _⟩
    rw [becomeValid_time]
    exact if_neg (Nat.ne_of_lt hclock)

end Sys2Proof.Proofs
end

section
/-! The site loader's requests (11): SITE_WORDS judged in the order of R192, and RESTART. -/

namespace Sys2Proof.Machine

/-! ## A served request whose block may change the links' rights -/

section Serving
variable {c : Instr} {k : RequestKind} {p : Port} {tag : Byte} {payload : List Byte} {body : State → Answer} {s : State}

/-- A request that its port takes is carried out at once (R167, R168). -/
theorem serve_taken (hr : c.request = some (p, requestFrame k tag payload)) (hl : k.lenOk (payload.length / 2) = true)
    (hreset : s.lines.reset = false) (ht : Takes (s.link.get p)) :
    serve c body s = sweepRefusals p bufferCapacity
      (carryOut p (requestFrame k tag payload) body (received p (requestFrame k tag payload) s)) := by
  obtain ⟨hwait, hfree⟩ := ht
  have harrive : arrive p (requestFrame k tag payload) s = received p (requestFrame k tag payload) s := by
    have hfits : ¬requestLenMax < (requestFrame k tag payload).len := Nat.not_lt.mpr (lenOk_le hl)
    simp [arrive, isOldest, hwait, hfits, handOn, hfree, received]
  have holdest : isOldest p (requestFrame k tag payload) (received p (requestFrame k tag payload) s) = true := by
    simp [isOldest, oldestWaiting_append _ hwait, sameRequest_self]
  simp [serve, State.heldInReset, hreset, hr, serveFrame, harrive, holdest]

/-- The link interface hands a served request on (R169). -/
theorem judgeRequest_served (hl : k.lenOk (payload.length / 2) = true) (h : Served k p s) :
    judgeRequest (received p (requestFrame k tag payload) s) p (requestFrame k tag payload) = none := by
  obtain ⟨-, -, hvalid, hright⟩ := h
  have hkind : requestKindOf (requestFrame k tag payload).kind = some k := requestKindOf_number k
  have hlen : k.lenOk (requestFrame k tag payload).len = true := hl
  have hv : (received p (requestFrame k tag payload) s).isValid = s.isValid := rfl
  have hrights : ((received p (requestFrame k tag payload) s).link.get p).rights = (s.link.get p).rights := by
    simp [received]
  unfold judgeRequest
  rw [hkind]
  simp only [hlen, hv, hrights, hright]
  cases hneeds : needsRight k with
  | false => rfl
  | true => simp [hvalid hneeds]

/-- A served request is answered by its block, when that leaves the port's buffers as they are. -/
theorem serve_answered (hr : c.request = some (p, requestFrame k tag payload))
    (hl : k.lenOk (payload.length / 2) = true) (h : Served k p s) {t : State} {code : Code} {data : ReplyData}
    (hb : body (received p (requestFrame k tag payload) s) = ⟨t, code, data⟩)
    (hbuffers : (t.link.get p).buffers = ((received p (requestFrame k tag payload) s).link.get p).buffers) :
    serve c body s =
      answered (received p (requestFrame k tag payload) s) p (requestFrame k tag payload) code data t := by
  have hwait : oldestWaiting (s.link.get p).buffers = none := h.2.1.1
  rw [serve_taken hr hl h.1 h.2.1, carryOut, judgeRequest_served hl h]
  dsimp only
  rw [hb]
  refine sweepRefusals_done _ ?_
  simp [hbuffers, markCarried_append _ hwait, oldestWaiting_carried _ hwait]

end Serving

/-! ## SITE_WORDS (R192) -/

section SiteWords
variable {start : Half} {new words : List Word} {length : Option Nat} {s : State}

theorem siteWords_lenOk (start : Half) {new : List Word} (h1 : 1 ≤ new.length) (h16 : new.length ≤ 16) :
    RequestKind.siteWords.lenOk ((bytes2 start ++ new.flatMap bytes4).length / 2) = true := by
  simp only [RequestKind.lenOk, List.length_append, Laws.Framed.words_length, bytes2, List.length_cons, List.length_nil,
    Bool.and_eq_true, decide_eq_true_eq, beq_iff_eq]
  omega

/-- What a SITE_WORDS request answers is its block's answer, with the loader's fields. -/
theorem exec_siteWords {p : Port} {tag : Byte} (h : Served .siteWords p s) (h1 : 1 ≤ new.length)
    (h16 : new.length ≤ 16) {t : State} {code : Code} {echo : Option (Nat × List Word)}
    (hb : siteWordsBody start new (received p (requestFrame .siteWords tag (bytes2 start ++ new.flatMap bytes4)) s) =
      ⟨t, code, siteReply t echo⟩)
    (hbuffers : (t.link.get p).buffers =
      ((received p (requestFrame .siteWords tag (bytes2 start ++ new.flatMap bytes4)) s).link.get p).buffers) :
    exec (.siteWords p tag start new) s =
      .next (answered (received p (requestFrame .siteWords tag (bytes2 start ++ new.flatMap bytes4)) s) p
        (requestFrame .siteWords tag (bytes2 start ++ new.flatMap bytes4)) code (siteReply t echo) t) :=
  congrArg Host.Outcome.next (serve_answered rfl (siteWords_lenOk start h1 h16) h hb hbuffers)

theorem siteOpen_iff :
    siteOpen s = true ↔ (s.loader.state = .loading ∧ s.loader.reading = false) ∨ s.loader.state = .configFault := by
  unfold siteOpen
  split
  next h => simp [h]
  next h => simp [h]
  next h => simp [h]

theorem siteWordsBody_wrongState (h : siteOpen s = false) : siteWordsBody start new s = refuseSite s .wrongState := by
  simp [siteWordsBody, h]

theorem siteWordsBody_badValue (hopen : siteOpen s = true)
    (h : start.toNat ≠ s.loader.nextIndex ∨ runsPast (heldLength s.loader) (start.toNat + new.length) = true) :
    siteWordsBody start new s = refuseSite s .badValue := by
  simp [siteWordsBody, hopen, h]

/-- The start of a load is judged by its header. -/
theorem siteWordsBody_starts (hopen : siteOpen s = true) (hnext : s.loader.nextIndex = 0)
    (hlength : heldLength s.loader = none) (h0 : start.toNat = 0) :
    siteWordsBody start new s =
      if headerOk (wordOf new 0) then storeWords 0 new new (some (imageLength (wordOf new 0))) s
      else refuseSite (configFault (.image 0) [] none s) .imageBad := by
  simp [siteWordsBody, hopen, hnext, hlength, runsPast, h0]

/-- Words in order are added to those held. -/
theorem siteWordsBody_continues {l : Nat} (hload : s.loader.state = .loading) (hread : s.loader.reading = false)
    (hlength : s.loader.length = some l) (h0 : start.toNat ≠ 0) (hnext : start.toNat = s.loader.nextIndex)
    (hfits : start.toNat + new.length ≤ l) :
    siteWordsBody start new s = storeWords start.toNat new (s.loader.words ++ new) (some l) s := by
  have hopen : siteOpen s = true := siteOpen_iff.mpr (.inl ⟨hload, hread⟩)
  have hheld : heldLength s.loader = some l := by rw [heldLength, hload]; exact hlength
  have hwords : heldWords s.loader = s.loader.words := by rw [heldWords, hload]
  simp [siteWordsBody, hopen, hheld, hwords, runsPast, h0, ← hnext, Nat.not_lt.mpr hfits]

/-- Short of L the words are kept, and echoed. -/
theorem storeWords_more {first l : Nat} (h : words.length < l) :
    storeWords first new words (some l) s =
      ⟨keepWords words (some l) s, .ok, siteReply (keepWords words (some l) s) (some (first, new))⟩ :=
  if_neg fun heq => absurd (Option.some.inj heq) (Nat.ne_of_gt h)

theorem storeWords_fail {first i : Nat} (h : checkImage words = .fail i) :
    storeWords first new words (some words.length) s =
      ⟨configFault (.image i) words (some words.length) s, .imageBad,
        siteReply (configFault (.image i) words (some words.length) s) none⟩ := by
  rw [storeWords, if_pos rfl, runChecks_fail h]
  rfl

theorem becomeValid_isValid (words : List Word) (image : SiteImage) (s : State) :
    (becomeValid words image s).isValid = true := by
  rw [State.isValid_congr (becomeValid_loader words image s)]
  rfl

theorem storeWords_pass {first : Nat} {image : SiteImage} (h : checkImage words = .pass image) :
    storeWords first new words (some words.length) s =
      ⟨becomeValid words image s, .ok, siteReply (becomeValid words image s) none⟩ := by
  rw [storeWords, if_pos rfl, runChecks_pass h]
  dsimp only
  rw [becomeValid_isValid]
  rfl

/-- The entry to VALID gives the ports their rights, and leaves what they hold. -/
theorem becomeValid_buffers (words : List Word) (image : SiteImage) (s : State) (p : Port) :
    ((becomeValid words image s).link.get p).buffers = (s.link.get p).buffers := by
  have hlink : (becomeValid words image s).link = (inForce words image s).link :=
    (judgeStow_work (inForce words image s)).link
  rw [hlink, inForce, PerPort.get_build]

end SiteWords

/-! ## RESTART (R194) -/

section Restart
variable {s : State}

theorem canCut_iff {st : AxisState} : st.canCut = true ↔ st ≠ .off ∧ st ≠ .cut := by
  cases st <;> simp [AxisState.canCut]

theorem anyUp_iff : (allAxes.any fun a => (s.drive.get a).state.canCut) = true ↔
    ∃ a, (s.drive.get a).state ≠ .off ∧ (s.drive.get a).state ≠ .cut := by
  simp only [List.any_eq_true, canCut_iff]
  exact ⟨fun ⟨a, _, h⟩ => ⟨a, h⟩, fun ⟨a, h⟩ => ⟨a, by cases a <;> simp [allAxes], h⟩⟩

theorem restartBody_refused (h : ∃ a, (s.drive.get a).state ≠ .off ∧ (s.drive.get a).state ≠ .cut) :
    restartBody s = refuse s .wrongState := if_pos (anyUp_iff.mpr h)

/-- With every axis down the blocks take their RESTART values. -/
theorem restartBody_accepts (h : ∀ a, (s.drive.get a).state = .off ∨ (s.drive.get a).state = .cut) :
    restartBody s =
      accept (restartPart s) (.restarted (restartPart s).ctrl.listState ((restartPart s).drive.map (·.state))) :=
  if_neg fun hup => by
    obtain ⟨a, hoff, hcut⟩ := anyUp_iff.mp hup
    exact (h a).elim hoff hcut

/-- The blocks at their RESTART values and every pending set emptied, before the STOW line is judged. -/
def restarted (s : State) : State := (restartBlocks s).setNotice (restartNotices s.notice)

theorem restartPart_low (h : s.lines.stow = false) : restartPart s = restarted s :=
  if_neg (Bool.eq_false_iff.mp h)

theorem restartPart_high (h : s.lines.stow = true) : restartPart s = stowRise (restarted s) := if_pos h

end Restart

end Sys2Proof.Machine

namespace Sys2Proof.Proofs
open Sys2Proof.Machine

/-- Settles O7: the branches of `siteWordsBody` in R192's order, and what storing the words brings. -/
theorem siteWordsAreJudgedInOrder : Obligations.SiteWordsAreJudgedInOrder := by
  intro p tag start new s hs h1 h16 f s1 answers loaded faulted judged
  have hanswers : ∀ {t : State} {code : Code} {echo : Option (Nat × List Word)},
      siteWordsBody start new s1 = ⟨t, code, siteReply t echo⟩ → (t.link.get p).buffers = (s1.link.get p).buffers →
      exec (.siteWords p tag start new) s = answers code echo t := exec_siteWords hs h1 h16
  have hopen : judged → siteOpen s1 = true := fun hj => siteOpen_iff.mpr hj
  refine ⟨fun hclosed => ?_, fun hj hstart => ?_, fun l hload hread hl hpast => ?_, fun hj h0 hnext hnone => ?_,
    fun l hload hread hl h0 hnext hwords hfits => ?_⟩
  · exact hanswers (siteWordsBody_wrongState (Bool.eq_false_iff.mpr (mt siteOpen_iff.mp hclosed))) rfl
  · exact hanswers (siteWordsBody_badValue (hopen hj) (.inl hstart)) rfl
  · have hheld : heldLength s1.loader = some l := by
      rw [show s1.loader = s.loader from rfl, heldLength, hload]
      exact hl
    refine hanswers (siteWordsBody_badValue (hopen (.inl ⟨hload, hread⟩)) (.inr ?_)) rfl
    rw [hheld]
    exact decide_eq_true hpast
  · have hheld : heldLength s1.loader = none := by
      rw [show s1.loader = s.loader from rfl, heldLength]
      rcases hj with ⟨hload, -⟩ | hfault
      · rw [hload]; exact hnone hload
      · rw [hfault]
    have hbody := siteWordsBody_starts (new := new) (hopen hj) hnext hheld h0
    refine ⟨fun hbad => hanswers (hbody.trans (if_neg (by simp [hbad]))) rfl, fun hok => ?_⟩
    have hshort : new.length < imageLength (wordOf new 0) := by have := (imageLength_of_headerOk hok).1; omega
    exact hanswers (hbody.trans ((if_pos hok).trans (storeWords_more hshort))) rfl
  · intro words
    have hbody : siteWordsBody start new s1 = storeWords start.toNat new words (some l) s1 :=
      siteWordsBody_continues hload hread hl h0 hnext hfits
    have hlength : words.length = start.toNat + new.length := by rw [List.length_append, hwords]
    refine ⟨fun hmore => hanswers (hbody.trans (storeWords_more (by omega))) rfl, fun hlast => ?_⟩
    obtain rfl : words.length = l := by omega
    exact ⟨fun i hi => hanswers (hbody.trans (storeWords_fail hi)) rfl,
      fun image hpass => hanswers (hbody.trans (storeWords_pass hpass)) (becomeValid_buffers ..)⟩

/-- Settles O10: `restarted` is each block's RESTART values, on which the STOW line is judged. -/
theorem restartTakesTheRestartValues : Obligations.RestartTakesTheRestartValues := by
  intro p tag s hs
  refine ⟨fun hup => serve_refuses rfl rfl hs (restartBody_refused hup), fun hdown => ?_⟩
  intro cleared
  let s1 := received p (requestFrame .restart tag []) s
  have hbody := restartBody_accepts (s := s1) hdown
  refine ⟨fun hlow => serve_accepts rfl rfl hs (hbody.trans ?_) rfl, fun hhigh => ?_⟩
  · rw [restartPart_low (s := s1) hlow]
    rfl
  · have hwork := stowRise_work (restarted s1)
    refine serve_accepts rfl rfl hs (hbody.trans ?_) hwork.link
    rw [restartPart_high (s := s1) hhigh, stowRise_listState, hwork.drive]
    rfl

end Sys2Proof.Proofs
end

section
/-! What the part's operations leave of the list state (02): of the target controller's own, only the entries to RUN, HOLD,
STOP and STOW move it. -/

namespace Sys2Proof.Machine

section Operations
variable {s : State}

theorem listState_ite {c : Prop} [Decidable c] {t u : State} {l : ListState} (ht : t.ctrl.listState = l)
    (hu : u.ctrl.listState = l) : (if c then t else u).ctrl.listState = l := by split <;> assumption

theorem listState_fold {α : Type} {f : State → α → State} (hf : ∀ t x, (f t x).ctrl.listState = t.ctrl.listState)
    (l : List α) : ∀ s : State, (l.foldl f s).ctrl.listState = s.ctrl.listState := by
  induction l with
  | nil => exact fun _ => rfl
  | cons x rest ih => exact fun s => (ih (f s x)).trans (hf s x)

/-! ## The target controller (02) -/

theorem endIfActive_listState (o : OutcomeKind) (s : State) : (endIfActive o s).ctrl.listState = s.ctrl.listState :=
  listState_ite (endTarget_listState o s) rfl

theorem endReport_listState (o : OutcomeKind) (n : Nat) (s : State) :
    (endReport o n s).ctrl.listState = s.ctrl.listState := listState_ite (endIfActive_listState o s) rfl

theorem enterTrack_listState (s : State) : (enterTrack s).ctrl.listState = s.ctrl.listState := listState_ite rfl rfl

theorem judgeSettle_listState (s : State) : (judgeSettle s).ctrl.listState = s.ctrl.listState := by
  unfold judgeSettle
  refine listState_ite ?_ rfl
  split
  · rfl
  · exact listState_ite (enterTrack_listState s) rfl

theorem arrivalReport_listState (n : Nat) (s : State) : (arrivalReport n s).ctrl.listState = s.ctrl.listState :=
  listState_ite (judgeSettle_listState _) rfl

theorem trackingReport_listState (a : Axis) (x : Int) (s : State) :
    (trackingReport a x s).ctrl.listState = s.ctrl.listState :=
  listState_ite (listState_ite (judgeSettle_listState _) rfl) rfl

theorem offsetMoved_listState (s : State) : (offsetMoved s).ctrl.listState = s.ctrl.listState := by
  unfold offsetMoved
  split <;> rfl

theorem removeWithOutcome_listState (r : TargetRecord) (o : OutcomeKind) (e k : Nat) (s : State) :
    (removeWithOutcome r o e k s).ctrl.listState = s.ctrl.listState := by rw [removeWithOutcome_ctrl]

theorem removeWithoutOutcome_listState (id : Nat) (s : State) :
    (removeWithoutOutcome id s).ctrl.listState = s.ctrl.listState := by
  rw [removeWithoutOutcome, noteEmpty_ctrl]
  rfl

/-- An ending and a freeze in STOP leave it (R47, R52). -/
theorem stopList_listState (o : OutcomeKind) (s : State) : (stopList o s).ctrl.listState = .stop :=
  endIfActive_listState o (s.setListState .stop)

theorem cutReport_listState (s : State) :
    (cutReport s).ctrl.listState = s.ctrl.listState ∨ (cutReport s).ctrl.listState = .stop := by
  unfold cutReport
  split
  · exact .inr (stopList_listState ..)
  · exact .inr (stopList_listState ..)
  · exact .inl rfl
  · exact .inl rfl

/-! ## Record expiry, start watches, PPS edges (01, 03) -/

theorem expireRecords_listState (rs : List TargetRecord) (s : State) :
    (expireRecords rs s).ctrl.listState = s.ctrl.listState :=
  (listState_fold (f := fun t _ => raise .targetEnded (startCheck t)) (fun t _ => startCheck_listState t) rs _).trans
    (listState_fold (fun _ _ => removeWithOutcome_listState ..) rs s)

theorem expireIfDue_listState (id : Nat) (s : State) : (expireIfDue id s).ctrl.listState = s.ctrl.listState := by
  unfold expireIfDue
  split
  · rfl
  · exact listState_ite (expireRecords_listState ..) rfl

theorem judgeWatches_work (s : State) : TargetWork s (judgeWatches s) := by
  have hjudged : TargetWork s (s.modCtrl fun c =>
      { c with watches := c.watches.map fun w => { w with expired := decide (w.start ≤ s.time.clock) } }) :=
    ⟨rfl, rfl, rfl, rfl, rfl, rfl⟩
  exact .iff (hjudged.trans (startCheck_work _)) hjudged

theorem judgeWatches_listState (s : State) : (judgeWatches s).ctrl.listState = s.ctrl.listState :=
  listState_ite (startCheck_listState _) rfl

/-! ## Corrections and captures (06, 08) -/

theorem changeStack_listState (stack : List OffsetEntry) (change : PerAxis Int) (s : State) :
    (changeStack stack change s).ctrl.listState = s.ctrl.listState :=
  listState_ite rfl (offsetMoved_listState _)

theorem takeSample_listState (x : GuideFigures) (s : State) : (takeSample x s).ctrl.listState = s.ctrl.listState :=
  listState_ite rfl rfl

theorem captureReport_listState (a : Axis) (x : TrackingError) (s : State) :
    (captureReport a x s).ctrl.listState = s.ctrl.listState := by
  unfold captureReport
  split
  · rfl
  · exact listState_ite rfl rfl

theorem judgeLevel_listState (level : Bool) (s : State) : (judgeLevel level s).ctrl.listState = s.ctrl.listState := by
  unfold judgeLevel
  refine listState_ite rfl ?_
  split
  · exact listState_ite rfl rfl
  · rfl

theorem judgeLevel_work (level : Bool) (s : State) : TargetWork s (judgeLevel level s) := by
  have hset : ∀ v, TargetWork s (s.setCapture v) := fun _ => ⟨rfl, rfl, rfl, rfl, rfl, rfl⟩
  unfold judgeLevel
  refine .iff (hset _) ?_
  split
  · exact .iff (.refl s) (hset _)
  · exact hset _

theorem changeShutter_listState (level : Bool) (s : State) :
    (changeShutter level s).ctrl.listState = s.ctrl.listState := by
  have hready : ∀ t : State, (acceptReady t).ctrl.listState = t.ctrl.listState := fun t =>
    congrArg Controller.listState (acceptReady_stands t).2
  have hjudged := (judgeLevel_listState level (acceptReady s)).trans (hready s)
  exact listState_ite ((hready _).trans hjudged) hjudged

theorem changeShutter_work (level : Bool) (s : State) : TargetWork s (changeShutter level s) := by
  have hjudged := (acceptReady_work s).trans (judgeLevel_work level _)
  exact .iff (hjudged.trans (acceptReady_work _)) hjudged

/-! ## Enabling and disabling (07) -/

theorem enterOn_listState (a : Axis) (s : State) : (enterOn a s).ctrl.listState = s.ctrl.listState :=
  listState_ite (startCheck_listState _) rfl

theorem enterReleasing_listState (a : Axis) (s : State) : (enterReleasing a s).ctrl.listState = s.ctrl.listState :=
  listState_ite (enterOn_listState a _) rfl

end Operations

/-! ## The reference of a demand instant (04) -/

/-- What evaluating the reference leaves alone: it moves the list store, the trajectory unit and the notices. -/
structure ReferenceWork (s t : State) : Prop where
  ctrl : t.ctrl = s.ctrl
  work : TargetWork s t

namespace ReferenceWork

theorem refl (s : State) : ReferenceWork s s := ⟨rfl, .refl s⟩

theorem trans {s t u : State} (h : ReferenceWork s t) (k : ReferenceWork t u) : ReferenceWork s u :=
  ⟨k.ctrl.trans h.ctrl, h.work.trans k.work⟩

theorem setTraj (s : State) (v : Trajectory) : ReferenceWork s (s.setTraj v) := ⟨rfl, rfl, rfl, rfl, rfl, rfl, rfl⟩

theorem reportNode (id : Nat) (s : State) : ReferenceWork s (Machine.reportNode id s) :=
  ⟨rfl, rfl, rfl, rfl, rfl, rfl, rfl⟩

theorem reportNodes (id n : Nat) : ∀ s, ReferenceWork s (Machine.reportNodes id n s) := by
  induction n with
  | zero => exact .refl
  | succ n ih => exact fun s => (reportNode id s).trans (ih _)

theorem adoptFreeze (s : State) : ReferenceWork s (Machine.adoptFreeze s) := setTraj s _

theorem adoptTrack (t id : Nat) (turns : Int) (s : State) : ReferenceWork s (Machine.adoptTrack t id turns s) := by
  unfold Machine.adoptTrack
  split
  · exact adoptFreeze s
  · split
    · exact adoptFreeze s
    · exact (reportNodes id _ s).trans (setTraj _ _)

theorem adoptSlot (t : Nat) (s : State) : ReferenceWork s (Machine.adoptSlot t s) := by
  unfold Machine.adoptSlot
  split
  · exact .refl s
  · dsimp only
    split
    · exact (setTraj s _).trans (adoptTrack ..)
    · exact (setTraj s _).trans (adoptFreeze _)
    · exact (setTraj s _).trans (setTraj _ _)

theorem switchNodes (t : Nat) (ns : List TrackNode) :
    ∀ (c : TrackContext) (s : State), ReferenceWork s (Machine.switchNodes t ns c s) := by
  induction ns with
  | nil => exact fun _ s => .refl s
  | cons n rest ih =>
    intro c s
    unfold Machine.switchNodes
    split
    · exact .trans ((setTraj s _).trans (reportNode _ _)) (ih _ _)
    · exact .refl s

theorem walkNodes (t : Nat) (s : State) : ReferenceWork s (Machine.walkNodes t s) := by
  have hlast : ∀ c u, ReferenceWork u (readLastTime c u) := fun c u => by
    unfold readLastTime
    split
    · exact .refl u
    · split
      · exact setTraj u _
      · exact .refl u
      · exact .refl u
  unfold Machine.walkNodes
  split
  · exact .refl s
  · exact .refl s
  · split
    · exact .refl s
    · exact (switchNodes t _ _ s).trans (hlast _ _)

theorem evaluateBase (t : Nat) (s : State) : ReferenceWork s (Machine.evaluateBase t s) := by
  unfold Machine.evaluateBase
  split
  · exact .refl s
  · exact .refl s
  · exact setTraj s _

theorem evaluateReference (t : Nat) (s : State) : ReferenceWork s (Machine.evaluateReference t s).1 := by
  have hwalked := (adoptSlot t s).trans (walkNodes t _)
  have hbase := hwalked.trans (evaluateBase t _)
  unfold Machine.evaluateReference
  dsimp only
  split
  · exact hwalked.trans (adoptFreeze _)
  · split
    · exact (hbase.trans (adoptFreeze _)).trans ⟨rfl, raise_work ..⟩
    · exact hbase

end ReferenceWork

end Sys2Proof.Machine
end

section
/-! Cuts and the list state (02, 07): within a command of the drives the list state moves only to STOP, with an axis that
enters CUT. -/

namespace Sys2Proof.Machine

/-- From `r` to `s` no axis has left CUT, and the list state stands, or is STOP with an axis that has entered CUT. A lemma
named `…_cuts` says that an operation keeps this. -/
structure CutMoves (r s : State) : Prop where
  kept : ∀ a, (r.drive.get a).state = .cut → (s.drive.get a).state = .cut
  list : s.ctrl.listState = r.ctrl.listState ∨
    (s.ctrl.listState = .stop ∧ ∃ a, (r.drive.get a).state ≠ .cut ∧ (s.drive.get a).state = .cut)

namespace CutMoves
variable {r s t u : State}

theorem refl (s : State) : CutMoves s s := ⟨fun _ h => h, .inl rfl⟩

/-- An operation that lets no axis leave CUT and leaves the list state. -/
theorem keeps (h : CutMoves r s) (hd : ∀ a, (s.drive.get a).state = .cut → (t.drive.get a).state = .cut)
    (hl : t.ctrl.listState = s.ctrl.listState) : CutMoves r t where
  kept a ha := hd a (h.kept a ha)
  list := by
    rw [hl]
    exact h.list.imp_right fun ⟨hstop, a, hr, hs⟩ => ⟨hstop, a, hr, hd a hs⟩

theorem work (h : CutMoves r s) (hw : TargetWork s t) (hl : t.ctrl.listState = s.ctrl.listState) : CutMoves r t :=
  h.keeps (fun a ha => by rwa [hw.drive]) hl

theorem iff {c : Prop} [Decidable c] (h : c → CutMoves r t) (k : ¬c → CutMoves r u) :
    CutMoves r (if c then t else u) := by
  split
  next hc => exact h hc
  next hc => exact k hc

/-- A fold of operations that keep it. -/
theorem fold {α : Type} {f : State → α → State} (l : List α)
    (hf : ∀ s x, x ∈ l → CutMoves r s → CutMoves r (f s x)) (h : CutMoves r s) : CutMoves r (l.foldl f s) :=
  List.foldlRecOn l f h fun s hs x hx => hf s x hx hs

/-- A change of one axis, which is not in CUT or stays in it. -/
theorem modDrive {b : Axis} {f : DriveAxis → DriveAxis} (h : CutMoves r s)
    (hf : (s.drive.get b).state = .cut → (f (s.drive.get b)).state = .cut) : CutMoves r (s.modDrive b f) := by
  refine h.keeps (fun a ha => ?_) rfl
  rw [State.modDrive_get]
  split
  next hab => rw [hab] at ha ⊢; exact hf ha
  next => exact ha

end CutMoves

section Operations
variable {r s : State}

/-! ## Cuts (R143 to R145) -/

theorem raise_cuts (src : NoticeSource) (h : CutMoves r s) : CutMoves r (raise src s) := h.work (raise_work ..) rfl

theorem enterCut_drive (c : CutSource) (a : Axis) (s : State) :
    (enterCut c a s).drive = (s.modDrive a (cutDrive c)).drive := (cutReport_work _).drive

/-- The axis that enters CUT is the one with which the list state may move. -/
theorem enterCut_cuts (c : CutSource) {a : Axis} (ha : (r.drive.get a).state ≠ .cut) (h : CutMoves r s) :
    CutMoves r (enterCut c a s) := by
  have hcut : ((enterCut c a s).drive.get a).state = .cut := by
    rw [enterCut_drive, State.modDrive_get, if_pos rfl]
    rfl
  have hkept : ∀ b, (s.drive.get b).state = .cut → ((enterCut c a s).drive.get b).state = .cut := fun b hb => by
    by_cases hab : b = a
    · rwa [hab]
    · rwa [enterCut_drive, State.modDrive_get, if_neg hab]
  rcases cutReport_listState ((s.modDrive a (cutDrive c)).modTraj a (holdAxis (s.drive.get a).lastActual)) with
    hstands | hstop
  · exact h.keeps hkept hstands
  · exact ⟨fun b hb => hkept b (h.kept b hb), .inr ⟨hstop, a, ha, hcut⟩⟩

/-- An axis that may be cut is in CUT neither now nor before. -/
theorem not_cut_of_canCut {a : Axis} (h : CutMoves r s) (ha : (s.drive.get a).state.canCut = true) :
    (r.drive.get a).state ≠ .cut := fun hr => (canCut_iff.mp ha).2 (h.kept a hr)

theorem chainCut_cuts (fuel : Nat) :
    ∀ (a : Axis) {s : State}, CutMoves r s → CutMoves r (chainCut fuel a s) := by
  induction fuel with
  | zero => exact fun _ _ h => h
  | succ n ih =>
    refine fun a s h => .fold _ (fun t b _ ht => .iff (fun hacts => ?_) fun _ => ht) h
    obtain ⟨hcan, -⟩ := Bool.and_eq_true_iff.mp hacts
    exact ih b (enterCut_cuts _ (not_cut_of_canCut ht hcan) ht)

theorem cutOwn_cuts (c : CutSource) (a : Axis) (h : CutMoves r s) : CutMoves r (cutOwn c a s) := by
  refine .iff (fun hacts => ?_) fun _ => h
  obtain ⟨hcan, -⟩ := Bool.and_eq_true_iff.mp hacts
  exact chainCut_cuts _ a (enterCut_cuts c (not_cut_of_canCut h hcan) h)

theorem cutByLine_cuts (c : CutSource) (h : CutMoves r s) : CutMoves r (cutByLine c s) := by
  refine .fold _ (fun _ a _ ht => chainCut_cuts _ a ht) (.fold _ (fun t a ha ht => ?_) h)
  obtain ⟨hcan, -⟩ := Bool.and_eq_true_iff.mp (List.mem_filter.mp ha).2
  exact enterCut_cuts c (not_cut_of_canCut h hcan) ht

/-! ## Replies (R137, R138, R141) -/

theorem followingRise_cuts (a : Axis) (h : CutMoves r s) : CutMoves r (followingRise a s) :=
  cutOwn_cuts _ a (h.modDrive fun hc => hc)

theorem judgeFollowing_cuts (a : Axis) (e : Int) (h : CutMoves r s) : CutMoves r (judgeFollowing a e s) :=
  .iff (fun _ => .iff (fun _ => h) fun _ => .iff (fun _ => followingRise_cuts a h) fun _ => h.modDrive fun hc => hc)
    fun _ => h.modDrive fun hc => hc

theorem formError_cuts (a : Axis) (f : OpenFrame) (x : Int) (h : CutMoves r s) : CutMoves r (formError a f x s) := by
  have hjudged := judgeFollowing_cuts a (f.demand - x) (h.modDrive (b := a)
    (f := fun d => { d with trackingError := some ⟨f.demand - x, f.time⟩ }) fun hc => hc)
  exact (hjudged.work (trackingReport_work ..) (trackingReport_listState ..)).work (captureReport_work ..)
    (captureReport_listState ..)

theorem countReply_cuts (a : Axis) (f : OpenFrame) (x : DriveReply) (h : CutMoves r s) :
    CutMoves r (countReply a f x s) := by
  have hcounted : CutMoves r (s.modDrive a (countedDrive x)) := h.modDrive fun hc => hc
  have hs : CutMoves r (if x.status = .fault ∧ (s.drive.get a).lastStatus ≠ some .fault then
      cutOwn .driveFault a (s.modDrive a (countedDrive x)) else s.modDrive a (countedDrive x)) :=
    .iff (fun _ => cutOwn_cuts _ a hcounted) fun _ => hcounted
  exact .iff (fun _ => formError_cuts a f _ hs) fun _ => hs

theorem judgeReply_cuts (a : Axis) (x : DriveReply) (h : CutMoves r s) : CutMoves r (judgeReply a x s) := by
  unfold judgeReply
  split
  · exact h
  · exact .iff (fun _ => countReply_cuts a _ x h) fun _ => h

theorem takeDriveCharacter_cuts (a : Axis) (char : Byte) (h : CutMoves r s) :
    CutMoves r (takeDriveCharacter a char s) := by
  unfold takeDriveCharacter
  dsimp only
  split
  · exact h.modDrive fun hc => hc
  · exact judgeReply_cuts a _ (h.modDrive fun hc => hc)

/-! ## A demand instant (R70, R139) -/

theorem silenceAxis_cuts (a : Axis) (h : CutMoves r s) : CutMoves r (silenceAxis s a) := by
  unfold silenceAxis
  dsimp only
  split
  · exact h
  · refine .iff (fun _ => cutOwn_cuts _ a ?_) fun _ => ?_ <;>
      exact .iff (fun _ => raise_cuts _ (h.modDrive fun hc => hc)) fun _ => h.modDrive fun hc => hc

theorem silenceCheck_cuts (h : CutMoves r s) : CutMoves r (silenceCheck s) :=
  .fold _ (fun _ a _ ht => silenceAxis_cuts a ht) h

theorem sendFrames_cuts (t : Nat) (h : CutMoves r s) : CutMoves r (sendFrames t s) := by
  refine .iff (fun _ => h.keeps (fun a ha => ?_) rfl) fun _ => h
  rwa [State.setDrive_drive, PerAxis.get_build, sendDrive_state]

/-- An axis that comes to rest leaves STOPPING, not CUT (R134). -/
theorem atRest_cuts (a : Axis) (h : CutMoves r s) : CutMoves r (atRest a s) := by
  unfold atRest
  split
  next hst =>
    have hs : CutMoves r (s.modDrive a fun d =>
        { d with state := .stopping .setting, brake := false, brakeTimer := some (s.brakeFromNow a) }) :=
      h.modDrive fun hc => nomatch hst.symm.trans hc
    refine .iff (fun _ => ?_) fun _ => hs
    have hoff : CutMoves r ((s.modDrive a fun d =>
        { d with state := .stopping .setting, brake := false, brakeTimer := some (s.brakeFromNow a) }).modDrive a fun d =>
        { d with state := .off, enable := false, brake := false, brakeTimer := none, grace := none, following := false }) :=
      hs.modDrive fun hc => by rw [State.modDrive_get, if_pos rfl] at hc; cases hc
    exact hoff.keeps (fun _ hc => hc) rfl
  all_goals exact h

theorem reportRest_cuts (moved : State) (h : CutMoves r s) : CutMoves r (reportRest moved s) :=
  .fold _ (fun _ a _ ht => .iff (fun _ => atRest_cuts a ht) fun _ => ht) h

theorem afterMove_cuts (t : Nat) (ending : Option OutcomeKind) (h : CutMoves r s) :
    CutMoves r (afterMove t ending s) := by
  have hsent := sendFrames_cuts t h
  have hended : CutMoves r (reportEnding (sendFrames t s).traj.adoptedSerial ending (sendFrames t s)) := by
    unfold reportEnding
    split
    · exact hsent
    · exact hsent.work (endReport_work ..) (endReport_listState ..)
  exact (reportRest_cuts _ hended).work (reportArrival_work ..) (listState_ite (arrivalReport_listState ..) rfl)

theorem takeInstant_cuts (t : Nat) (gust : Bool) (h : CutMoves r s) : CutMoves r (takeInstant t gust s) := by
  have href := ReferenceWork.evaluateReference t (beginInstant t gust s)
  have hbegun : CutMoves r (evaluateReference t (beginInstant t gust s)).1 :=
    (h.keeps (t := beginInstant t gust s) (fun _ hc => hc) rfl).work href.work (congrArg Controller.listState href.ctrl)
  rw [takeInstant_eq]
  exact afterMove_cuts t _ ((silenceCheck_cuts hbegun).keeps (fun _ hc => hc) rfl)

theorem demandInstant_cuts (gust : Bool) (h : CutMoves r s) : CutMoves r (demandInstant gust s) :=
  takeInstant_cuts _ gust (h.keeps (fun _ hc => hc) rfl)

end Operations

/-- Taking an instant moves neither the links, the clock nor the loader. -/
theorem takeInstant_work (t : Nat) (gust : Bool) (s : State) : DriveWork s (takeInstant t gust s) := by
  have hbegun : DriveWork s (beginInstant t gust s) := ⟨rfl, rfl, rfl, rfl, rfl⟩
  have hmoved : ∀ u, DriveWork u (moveAxes u) := fun _ => ⟨rfl, rfl, rfl, rfl, rfl⟩
  rw [takeInstant_eq]
  exact hbegun.trans ((ReferenceWork.evaluateReference ..).work.toDrive.trans
    ((silenceCheck_work _).trans ((hmoved _).trans (afterMove_work ..))))

end Sys2Proof.Machine
end

section
/-! What each command leaves of the image and the rights, the list state and the clock (R193, R170, R27, R55). -/

namespace Sys2Proof.Machine

/-- From `s` to `t` the loader, the rights of the ports and the clock stand. -/
structure SiteStands (s t : State) : Prop where
  loader : t.loader = s.loader
  rights : ∀ p, (t.link.get p).rights = (s.link.get p).rights
  clock : t.time.clock = s.time.clock

/-- From `s` to `t` they stand, and the list state with them. A lemma named `…_course` says that of an operation. -/
structure CourseStands (s t : State) : Prop extends SiteStands s t where
  list : t.ctrl.listState = s.ctrl.listState

namespace SiteStands
variable {s t u : State}

theorem refl (s : State) : SiteStands s s := ⟨rfl, fun _ => rfl, rfl⟩

theorem trans (h : SiteStands s t) (k : SiteStands t u) : SiteStands s u :=
  ⟨k.loader.trans h.loader, fun p => (k.rights p).trans (h.rights p), k.clock.trans h.clock⟩

theorem of_work (h : DriveWork s t) : SiteStands s t := ⟨h.loader, fun p => by rw [h.link], by rw [h.time]⟩

theorem iff {c : Prop} [Decidable c] (h : SiteStands s t) (k : SiteStands s u) :
    SiteStands s (if c then t else u) := by split <;> assumption

theorem modPort {p : Port} {f : LinkPort → LinkPort} (hf : ∀ q, (f q).rights = q.rights) :
    SiteStands s (s.modPort p f) where
  loader := rfl
  rights q := by
    rw [State.modPort_get]
    split
    · exact hf _
    · rfl
  clock := rfl

end SiteStands

namespace CourseStands
variable {s t u : State}

theorem refl (s : State) : CourseStands s s := ⟨.refl s, rfl⟩

theorem trans (h : CourseStands s t) (k : CourseStands t u) : CourseStands s u :=
  ⟨h.toSiteStands.trans k.toSiteStands, k.list.trans h.list⟩

theorem of_drive (h : DriveWork s t) (hl : t.ctrl.listState = s.ctrl.listState) : CourseStands s t := ⟨.of_work h, hl⟩

theorem of_target (h : TargetWork s t) (hl : t.ctrl.listState = s.ctrl.listState) : CourseStands s t := .of_drive h.toDrive hl

theorem iff {c : Prop} [Decidable c] (h : CourseStands s t) (k : CourseStands s u) : CourseStands s (if c then t else u) := by
  split <;> assumption

theorem answer {c : Prop} [Decidable c] {a b : Answer} (h : CourseStands s a.state) (k : CourseStands s b.state) :
    CourseStands s (if c then a else b).state := by split <;> assumption

theorem modPort {p : Port} {f : LinkPort → LinkPort} (hf : ∀ q, (f q).rights = q.rights) :
    CourseStands s (s.modPort p f) := ⟨.modPort hf, rfl⟩

theorem fold {α : Type} {f : State → α → State} (hf : ∀ t x, CourseStands t (f t x)) (l : List α) :
    ∀ s, CourseStands s (l.foldl f s) := by
  induction l with
  | nil => exact .refl
  | cons x rest ih => exact fun s => (hf s x).trans (ih _)

end CourseStands

/-! ## Serving a request, by predicates that changes of a port's rights may not keep -/

section Serving
variable {P : State → Prop}
  (hport : ∀ s p f, (∀ q : LinkPort, (f q).rights = q.rights) → P s → P (State.modPort s p f))
  (hover : ∀ s, P s → P (raise .linkOverrun s))
include hport

theorem sweepRefusals_keepsRights (p : Port) (n : Nat) {s : State} (h : P s) : P (sweepRefusals p n s) := by
  induction n generalizing s with
  | zero => exact h
  | succ n ih =>
    unfold sweepRefusals
    split
    · exact h
    · split
      · exact h
      · exact ih (hport _ _ _ (answerPort_rights _ _ _ _) h)

include hover

theorem handOn_keepsRights (p : Port) (f : Frame) {s : State} (h : P s) : P (handOn p f s) := by
  unfold handOn
  split
  · exact hport _ _ _ (fun _ => rfl) h
  · exact hover _ (hport _ _ _ (fun _ => rfl) h)

theorem serve_keepsRights {c : Instr} {body : State → Answer} {s : State} (hbody : ∀ t, P t → P (body t).state)
    (h : P s) : P (serve c body s) := by
  unfold serve
  split
  · exact h
  split
  · exact h
  next p f _ =>
    have harrive : P (arrive p f s) := by
      unfold arrive
      split
      · exact h
      split
      · exact hport _ _ _ (fun _ => rfl) h
      · exact handOn_keepsRights hport hover p f h
    unfold serveFrame
    dsimp only
    split
    · refine sweepRefusals_keepsRights hport p _ ?_
      unfold carryOut
      split
      · exact hport _ _ _ (answerPort_rights _ _ _ _) harrive
      · exact hport _ _ _ (answerPort_rights _ _ _ _) (hbody _ harrive)
    · exact harrive

end Serving

/-! ## The owning blocks' answers -/

section Bodies
variable {s : State}

theorem serve_site {c : Instr} {body : State → Answer} (hb : ∀ t, SiteStands t (body t).state) :
    SiteStands s (serve c body s) :=
  serve_keepsRights (P := SiteStands s) (fun _ _ _ hf h => h.trans (.modPort hf))
    (fun _ h => h.trans (.of_work (raise_work ..).toDrive)) (fun t h => h.trans (hb t)) (.refl s)

theorem serve_course {c : Instr} {body : State → Answer} (hb : ∀ t, CourseStands t (body t).state) :
    CourseStands s (serve c body s) :=
  serve_keepsRights (P := CourseStands s) (fun _ _ _ hf h => h.trans (.modPort hf))
    (fun _ h => h.trans (.of_target (raise_work ..) rfl)) (fun t h => h.trans (hb t)) (.refl s)

theorem startCheck_course (s : State) : CourseStands s (startCheck s) := .of_target (startCheck_work s) (startCheck_listState s)

theorem endTarget_course (o : OutcomeKind) (s : State) : CourseStands s (endTarget o s) :=
  .of_target (endTarget_work o s) (endTarget_listState o s)

theorem changeStack_course (stack : List OffsetEntry) (change : PerAxis Int) (s : State) :
    CourseStands s (changeStack stack change s) := .of_target (changeStack_work ..) (changeStack_listState ..)

theorem setNotice_course (v : Notices) (s : State) : CourseStands s (s.setNotice v) := .of_target ⟨rfl, rfl, rfl, rfl, rfl, rfl⟩ rfl

theorem addTargetBody_course (header : WireHeader) (wire : List WireNode) (s : State) :
    CourseStands s (addTargetBody header wire s).state := by
  have hwatch : ∀ r : TargetRecord, CourseStands s (watchRecord r (s.setList (addRecord r s.list))) := fun r => by
    have hjoined : CourseStands s ((s.setList (addRecord r s.list)).modCtrl fun c =>
        { c with watches := c.watches ++ [⟨r.id, r.start, decide (r.start ≤ s.time.clock)⟩] }) :=
      ⟨⟨rfl, fun _ => rfl, rfl⟩, rfl⟩
    rw [watchRecord_eq]
    exact .iff (hjoined.trans (startCheck_course _)) hjoined
  unfold addTargetBody
  dsimp only
  split
  · exact .refl s
  split
  · exact .refl s
  · exact .answer (.refl s) (.answer (.refl s) (.answer (.refl s) (.answer (.refl s) (hwatch _))))

theorem appendNodesBody_course (id : Half) (wire : List WireNode) (s : State) :
    CourseStands s (appendNodesBody id wire s).state := by
  have hset : ∀ v, CourseStands s (s.setList v) := fun _ => .of_target ⟨rfl, rfl, rfl, rfl, rfl, rfl⟩ rfl
  unfold appendNodesBody
  dsimp only
  split
  · exact .refl s
  split
  · exact .refl s
  · exact .answer (.refl s) (.answer (.refl s) (.answer (.refl s) (hset _)))

theorem deleteTargetBody_course (id : Half) (s : State) : CourseStands s (deleteTargetBody id s).state := by
  unfold deleteTargetBody
  split
  · exact .refl s
  · exact .answer (.refl s) ((CourseStands.of_target (removeWithoutOutcome_work ..)
      (removeWithoutOutcome_listState ..)).trans (startCheck_course _))

theorem abortBody_course (id : Half) (s : State) : CourseStands s (abortBody id s).state :=
  .answer (.refl s) (.answer (.refl s) (endTarget_course ..))

theorem releaseBody_course (id : Half) (s : State) : CourseStands s (releaseBody id s).state :=
  .answer (.refl s) (.answer (.refl s) (.answer (.refl s) (endTarget_course ..)))

theorem setTimeBody_course (time : SiteTimeWord) (s : State) : CourseStands s (setTimeBody time s).state :=
  .answer (.refl s) (.answer (.refl s) ⟨⟨rfl, fun _ => rfl, rfl⟩, rfl⟩)

theorem guideSampleBody_course (dx dy : Half) (s : State) : CourseStands s (guideSampleBody dx dy s).state :=
  .answer (.refl s) (.answer (.refl s) (.of_target (takeSample_work ..) (takeSample_listState ..)))

theorem pushOffsetBody_course (dx dy drot : Word) (s : State) : CourseStands s (pushOffsetBody dx dy drot s).state :=
  .answer (.refl s) (.answer (.refl s) (.answer (.refl s) (.answer (.refl s) (changeStack_course ..))))

theorem popOffsetBody_course (s : State) : CourseStands s (popOffsetBody s).state := by
  unfold popOffsetBody
  split
  · exact .refl s
  split
  · exact .refl s
  · exact changeStack_course ..

theorem clearOffsetsBody_course (s : State) : CourseStands s (clearOffsetsBody s).state :=
  .answer (.refl s) (changeStack_course ..)

theorem enableAxesBody_course (mask : Byte) (s : State) : CourseStands s (enableAxesBody mask s).state :=
  .answer (.refl s) (.answer (.refl s) (.answer (.refl s)
    (.fold (fun t a => .of_drive (enterReleasing_work a t) (enterReleasing_listState a t)) _ s)))

theorem disableAxesBody_course (mask : Byte) (s : State) : CourseStands s (disableAxesBody mask s).state :=
  .answer (.refl s) (.answer (.refl s)
    (.fold (f := fun t a => enterStopping a t) (fun t a => .of_drive (enterStopping_work a t) rfl) _ s))

theorem setCutMaskBody_course (axis mask : Byte) (s : State) : CourseStands s (setCutMaskBody axis mask s).state := by
  unfold setCutMaskBody
  split
  · exact .refl s
  · exact .of_drive ⟨rfl, rfl, rfl, rfl, rfl⟩ rfl

theorem setRoutingBody_course (source mask level : Byte) (s : State) :
    CourseStands s (setRoutingBody source mask level s).state := by
  unfold setRoutingBody
  split
  · exact .refl s
  · exact .answer (.refl s) (setNotice_course ..)

theorem setThresholdBody_course (p : Port) (threshold : Byte) (s : State) :
    CourseStands s (setThresholdBody p threshold s).state :=
  .answer (.refl s) (.answer (.refl s) (setNotice_course ..))

/-! ## Requests that move the list state -/

theorem runBody_site (s : State) : SiteStands s (runBody s).state := by
  unfold runBody
  split
  · exact .refl s
  · exact .refl s
  all_goals
    split
    · exact .refl s
    · exact .trans (t := s.setListState .run) ⟨rfl, fun _ => rfl, rfl⟩ (startCheck_course _).toSiteStands

theorem holdBody_site (s : State) : SiteStands s (holdBody s).state := by
  unfold holdBody
  split
  · exact ⟨rfl, fun _ => rfl, rfl⟩
  all_goals exact .refl s

theorem stopBody_site (s : State) : SiteStands s (stopBody s).state := by
  unfold stopBody
  split
  · exact .of_work (stopList_work ..).toDrive
  · exact .of_work (stopList_work ..).toDrive
  all_goals exact .refl s

theorem restartBody_site (s : State) : SiteStands s (restartBody s).state := by
  have hrestarted : SiteStands s (restarted s) := ⟨rfl, fun _ => rfl, rfl⟩
  unfold restartBody
  split
  · exact .refl s
  · exact hrestarted.trans (.of_work (judgeStow_work (restarted s)).toDrive)

end Bodies

/-! ## The load of an image (R190 to R193) -/

/-- The image in force and the rights stand. -/
def ImageStands (s t : State) : Prop :=
  ∀ image, s.loader.state = .valid image →
    t.loader.state = .valid image ∧ ∀ p, (t.link.get p).rights = (s.link.get p).rights

theorem SiteStands.image {s t : State} (h : SiteStands s t) : ImageStands s t :=
  fun _ hv => ⟨by rw [h.loader, hv], h.rights⟩

theorem ImageStands.trans {s t u : State} (h : ImageStands s t) (k : ImageStands t u) : ImageStands s u := by
  intro image hs
  obtain ⟨ht, hr⟩ := h image hs
  obtain ⟨hu, hr'⟩ := k image ht
  exact ⟨hu, fun p => (hr' p).trans (hr p)⟩

/-- Before VALID there is no image to stand. -/
theorem ImageStands.of_not_valid {s t : State} (h : s.isValid = false) : ImageStands s t := by
  intro image hv
  simp [State.isValid, State.image?, hv] at h

/-- From `r` to `s` an image in force stands, with the rights, and the clock; the list state stands, or is STOW with the load
state VALID. -/
structure LoadMoves (r s : State) : Prop where
  image : ImageStands r s
  clock : s.time.clock = r.time.clock
  list : s.ctrl.listState = r.ctrl.listState ∨ (s.ctrl.listState = .stow ∧ s.isValid = true)

namespace LoadMoves
variable {r s t : State}

theorem refl (s : State) : LoadMoves s s := ⟨(SiteStands.refl s).image, rfl, .inl rfl⟩

theorem course (h : LoadMoves r s) (k : CourseStands s t) : LoadMoves r t where
  image := h.image.trans k.image
  clock := k.clock.trans h.clock
  list := by rw [k.list, State.isValid_congr k.loader]; exact h.list

/-- Before VALID a load moves what it does. -/
theorem loads (h : LoadMoves r s) (hv : s.isValid = false) (k : LoadMoves s t) : LoadMoves r t where
  image := h.image.trans k.image
  clock := k.clock.trans h.clock
  list := by
    have hs : s.ctrl.listState = r.ctrl.listState := h.list.resolve_right fun hstow => by simp [hv] at hstow
    rw [← hs]
    exact k.list

end LoadMoves

section Loads
variable {s : State}

theorem setLoader_moves (hv : s.isValid = false) (v : Loader) : LoadMoves s (s.setLoader v) :=
  ⟨.of_not_valid hv, rfl, .inl rfl⟩

theorem becomeValid_moves (hv : s.isValid = false) (words : List Word) (image : SiteImage) :
    LoadMoves s (becomeValid words image s) where
  image := .of_not_valid hv
  clock := by rw [becomeValid_time]
  list := by
    cases hstow : s.lines.stow with
    | false =>
      have hlow : becomeValid words image s = inForce words image s := if_neg (Bool.eq_false_iff.mp hstow)
      exact .inl (by rw [hlow]; rfl)
    | true =>
      have hhigh : becomeValid words image s = stowRise (inForce words image s) := if_pos hstow
      exact .inr ⟨by rw [hhigh, stowRise_listState], becomeValid_isValid words image s⟩

theorem runChecks_moves (hv : s.isValid = false) (words : List Word) : LoadMoves s (runChecks words s) := by
  unfold runChecks
  split
  · exact becomeValid_moves hv ..
  · exact setLoader_moves hv _

theorem endRead_moves (hv : s.isValid = false) (bytes : List Byte) : LoadMoves s (endRead bytes s) := by
  have hset := setLoader_moves hv
  unfold endRead
  split
  · exact hset _
  · split
    · dsimp only
      split
      · exact hset _
      · exact runChecks_moves hv _
    · exact hset _

theorem readRunning_not_valid (h : readRunning s = true) : s.isValid = false := by
  unfold readRunning at h
  split at h
  next hs => simp [State.isValid, State.image?, hs]
  next => cases h
  next => cases h

theorem siteOpen_not_valid (h : siteOpen s = true) : s.isValid = false := by
  rcases siteOpen_iff.mp h with ⟨hs, -⟩ | hs <;> simp [State.isValid, State.image?, hs]

theorem storeWords_moves (hv : s.isValid = false) (first : Nat) (new words : List Word) (length : Option Nat) :
    LoadMoves s (storeWords first new words length s).state := by
  unfold storeWords
  split
  · exact runChecks_moves hv words
  · exact setLoader_moves hv _

/-- A request that is judged finds the load state not VALID. -/
theorem siteWordsBody_moves {r : State} (start : Half) (new : List Word) (h : LoadMoves r s) :
    LoadMoves r (siteWordsBody start new s).state := by
  cases hopen : siteOpen s with
  | false => rw [siteWordsBody_wrongState hopen]; exact h
  | true =>
    have hv := siteOpen_not_valid hopen
    refine h.loads hv ?_
    unfold siteWordsBody
    dsimp only
    split
    · exact .refl s
    split
    · exact .refl s
    split
    · split
      · exact storeWords_moves hv ..
      · exact setLoader_moves hv _
    · exact storeWords_moves hv ..

theorem serve_loads (c : Instr) (start : Half) (new : List Word) : LoadMoves s (serve c (siteWordsBody start new) s) :=
  serve_keepsRights (P := LoadMoves s) (fun _ _ _ hf h => h.course (.modPort hf))
    (fun _ h => h.course (.of_target (raise_work ..) rfl)) (fun _ h => siteWordsBody_moves start new h) (.refl s)

end Loads

/-! ## The clock (R55, R60, R61) -/

section Clock
variable {s : State}

/-- An applied set moves the time base; what follows from the new clock moves neither it nor the list state. -/
theorem applySet_course (value : Nat) (s : State) :
    CourseStands (s.setTime (setClock s.period value s.time)) (applySet value s) := by
  have hshifted : CourseStands (s.setTime (setClock s.period value s.time))
      (((s.setTime (setClock s.period value s.time)).modCtrl (shiftController (value - s.time.clock))).setDrive
        (s.drive.map (shiftDrive (value - s.time.clock)))) := ⟨⟨rfl, fun _ => rfl, rfl⟩, rfl⟩
  have hexpired : ∀ u, CourseStands u (expireAllDue u) := fun u =>
    .of_target (expireAllDue_work u) (expireRecords_listState ..)
  have hjudged : ∀ u, CourseStands u (judgeWatches u) := fun u =>
    .of_target (judgeWatches_work u) (judgeWatches_listState u)
  exact (hshifted.trans (.iff (hexpired _) (.refl _))).trans (hjudged _)

theorem disciplineClock_le (t : TimeBase) : t.clock ≤ (disciplineClock t).clock := by
  unfold disciplineClock
  dsimp only
  split
  · exact Nat.le_refl _
  · split
    · exact Nat.le_refl _
    · exact Nat.le_add_right ..

/-- An edge that disciplines the clock moves the time base forward or not at all (R61, R62). -/
theorem disciplineEdge_course (s : State) :
    ∃ t, CourseStands (s.setTime t) (disciplineEdge s) ∧ s.time.clock ≤ t.clock := by
  have hraised : ∀ u, CourseStands u (raise .timeFault u) := fun u => .of_target (raise_work ..) rfl
  unfold disciplineEdge
  dsimp only
  split
  · exact ⟨_, .iff (hraised _) (.refl _), disciplineClock_le s.time⟩
  · exact ⟨_, hraised _, Nat.le_refl _⟩

/-- A PPS edge moves the time base alone of what stands, and the clock back only to a pending set. -/
theorem ppsEdge_course (s : State) :
    ∃ t, CourseStands (s.setTime t) (ppsEdge s) ∧ (t.clock < s.time.clock → s.time.pendingSet = some t.clock) := by
  unfold ppsEdge
  split
  next v hset => exact ⟨_, applySet_course v s, fun _ => hset⟩
  next =>
    split
    · exact ⟨s.time, .refl s, fun hlt => absurd hlt (Nat.lt_irrefl _)⟩
    · obtain ⟨t, ht, hle⟩ := disciplineEdge_course s
      exact ⟨t, ht, fun hlt => absurd hle (Nat.not_le.mpr hlt)⟩

theorem countMicrosecond_le (t : TimeBase) : t.clock ≤ (countMicrosecond t).clock := by
  unfold countMicrosecond
  dsimp only
  split
  · exact Nat.le_refl _
  · exact Nat.le_succ _

/-- On an empty queue the clock does not go back. -/
theorem idle_clock (s : State) : s.time.clock ≤ (idle s).time.clock := by
  unfold idle
  split
  · exact Nat.le_refl _
  · split
    · have htime : (judgeLevel s.lines.shutter s).time = s.time := (judgeLevel_work ..).time
      exact htime ▸ countMicrosecond_le (judgeLevel s.lines.shutter s).time
    · exact Nat.le_refl _

end Clock

/-! ## Each command -/

/-- Power-on and the RESET line's edges. -/
def Resets (c : Instr) : Prop := c = .resetAssert ∨ ∃ l, c = .powerOn l ∨ c = .resetFall l

/-- What a move of the list state goes with. -/
def ListEvent (c : Instr) (s t : State) : Prop :=
  match c with
  | .run _ _ | .hold _ _ | .stop _ _ | .restart _ _ | .stowRise | .stowFall => True
  | .powerOn _ | .resetAssert | .resetFall _ => t.ctrl.listState = .stop
  | .siteWords _ _ _ _ | .configMemoryReadEnd _ => t.ctrl.listState = .stow ∧ t.isValid = true
  | .cutSourceRise _ _ | .driveReply _ _ | .graceTimerExpiry _ | .demandInstant _ =>
    t.ctrl.listState = .stop ∧ ∃ a, (s.drive.get a).state ≠ .cut ∧ (t.drive.get a).state = .cut
  | _ => False

/-- What a step back of the clock goes with. -/
def ClockEvent (c : Instr) (s t : State) : Prop :=
  match c with
  | .ppsEdge => ∃ v, s.time.pendingSet = some v ∧ t.time.clock = v
  | .powerOn _ | .resetAssert | .resetFall _ => t.time.clock = 0
  | _ => False

/-- A command moves the image and the rights, the list state and the clock only as its event has it. -/
structure Moves (c : Instr) (s t : State) : Prop where
  image : ¬Resets c → ImageStands s t
  list : t.ctrl.listState ≠ s.ctrl.listState → ListEvent c s t
  clock : t.time.clock < s.time.clock → ClockEvent c s t

namespace Moves
variable {c : Instr} {s t : State}

theorem of_site (h : SiteStands s t) (hl : t.ctrl.listState ≠ s.ctrl.listState → ListEvent c s t) : Moves c s t :=
  ⟨fun _ => h.image, hl, fun hlt => absurd h.clock (Nat.ne_of_lt hlt)⟩

theorem of_course (h : CourseStands s t) : Moves c s t := .of_site h.toSiteStands fun hne => absurd h.list hne

theorem of_cuts (h : SiteStands s t) (hcuts : CutMoves s t)
    (hl : (t.ctrl.listState = .stop ∧ ∃ a, (s.drive.get a).state ≠ .cut ∧ (t.drive.get a).state = .cut) →
      ListEvent c s t) : Moves c s t := .of_site h fun hne => hl (hcuts.list.resolve_left hne)

theorem of_load (h : LoadMoves s t) (hl : t.ctrl.listState = .stow ∧ t.isValid = true → ListEvent c s t) :
    Moves c s t :=
  ⟨fun _ => h.image, fun hne => hl (h.list.resolve_left hne), fun hlt => absurd h.clock (Nat.ne_of_lt hlt)⟩

theorem of_reset (hc : Resets c) (hl : ListEvent c s t) (hclock : ClockEvent c s t) : Moves c s t :=
  ⟨fun hno => absurd hc hno, fun _ => hl, fun _ => hclock⟩

end Moves

section Commands
variable {s : State}

theorem takeCharacter_course (p : Port) (char : Byte) (s : State) : CourseStands s (takeCharacter p char s) := by
  have hport : ∀ (t : State) (q : Port) (f : LinkPort → LinkPort), (∀ x, (f x).rights = x.rights) →
      CourseStands s t → CourseStands s (t.modPort q f) := fun _ _ _ hf h => h.trans (.modPort hf)
  have hdiscards : ∀ r, CourseStands s (s.modPort p (countDiscards r)) := fun _ => .modPort fun _ => rfl
  unfold takeCharacter
  dsimp only
  split
  · exact hdiscards _
  · exact sweepRefusals_keepsRights hport _ _
      (handOn_keepsRights hport (fun _ h => h.trans (.of_target (raise_work ..) rfl)) _ _ (hdiscards _))

theorem gapDiscard_rights (now : Nat) (q : LinkPort) : (gapDiscard now q).rights = q.rights := by
  unfold gapDiscard
  split <;> rfl

theorem replyGone_rights (q : LinkPort) : (replyGone q).rights = q.rights := by
  unfold replyGone
  split
  · rfl
  · exact beginReply_rights _

theorem setLines_course (v : Lines) (s : State) : CourseStands s (s.setLines v) := ⟨⟨rfl, fun _ => rfl, rfl⟩, rfl⟩

/-- Every command answers a next state, and moves what it moves at its event. -/
theorem exec_moves (c : Instr) (s : State) : ∃ t, exec c s = .next t ∧ Moves c s t := by
  have hs : CourseStands s s := .refl s
  have hlevel : ∀ v, CourseStands s (s.setLines v) := fun v => setLines_course v s
  cases c with
  | powerOn l => exact ⟨_, rfl, .of_reset (.inr ⟨l, .inl rfl⟩) rfl rfl⟩
  | resetAssert => exact ⟨_, rfl, .of_reset (.inl rfl) rfl rfl⟩
  | resetFall l => exact ⟨_, rfl, .of_reset (.inr ⟨l, .inr rfl⟩) rfl rfl⟩
  | configMemoryReadEnd bytes =>
    refine ⟨_, rfl, .of_load ?_ fun h => h⟩
    split
    next hdue => exact endRead_moves (readRunning_not_valid (Bool.and_eq_true_iff.mp hdue).2) bytes
    next => exact .refl s
  | portRateChange => exact ⟨_, rfl, .of_course (.iff (.modPort fun _ => rfl) hs)⟩
  | linkCharacter port char => exact ⟨_, rfl, .of_course (.iff hs (takeCharacter_course port char s))⟩
  | linkGapExpiry => exact ⟨_, rfl, .of_course (.iff hs (.modPort (gapDiscard_rights _)))⟩
  | replySent => exact ⟨_, rfl, .of_course (.iff hs (.modPort replyGone_rights))⟩
  | addTarget _ _ header nodes => exact ⟨_, rfl, .of_course (serve_course (addTargetBody_course header nodes))⟩
  | appendNodes _ _ id nodes => exact ⟨_, rfl, .of_course (serve_course (appendNodesBody_course id nodes))⟩
  | deleteTarget _ _ id => exact ⟨_, rfl, .of_course (serve_course (deleteTargetBody_course id))⟩
  | readList => exact ⟨_, rfl, .of_course (serve_course fun t => .answer (.refl t) (.refl t))⟩
  | readPredict => exact ⟨_, rfl, .of_course (serve_course fun t => .answer (.refl t) (.refl t))⟩
  | readOutcomes | readSequence | readTime | readPointing | readCorrections | readAxes | readStatus =>
    exact ⟨_, rfl, .of_course (serve_course .refl)⟩
  | forceGust | clearForce | guideReset | readCaptures | readNotices =>
    exact ⟨_, rfl, .of_course (serve_course fun _ => ⟨⟨rfl, fun _ => rfl, rfl⟩, rfl⟩)⟩
  | abort _ _ id => exact ⟨_, rfl, .of_course (serve_course (abortBody_course id))⟩
  | release _ _ id => exact ⟨_, rfl, .of_course (serve_course (releaseBody_course id))⟩
  | setTime _ _ time => exact ⟨_, rfl, .of_course (serve_course (setTimeBody_course time))⟩
  | guideSample _ _ dx dy => exact ⟨_, rfl, .of_course (serve_course (guideSampleBody_course dx dy))⟩
  | pushOffset _ _ dx dy drot => exact ⟨_, rfl, .of_course (serve_course (pushOffsetBody_course dx dy drot))⟩
  | popOffset => exact ⟨_, rfl, .of_course (serve_course popOffsetBody_course)⟩
  | clearOffsets => exact ⟨_, rfl, .of_course (serve_course clearOffsetsBody_course)⟩
  | enableAxes _ _ mask => exact ⟨_, rfl, .of_course (serve_course (enableAxesBody_course mask))⟩
  | disableAxes _ _ mask => exact ⟨_, rfl, .of_course (serve_course (disableAxesBody_course mask))⟩
  | setCutMask _ _ axis mask => exact ⟨_, rfl, .of_course (serve_course (setCutMaskBody_course axis mask))⟩
  | setRouting _ _ source mask level =>
    exact ⟨_, rfl, .of_course (serve_course (setRoutingBody_course source mask level))⟩
  | setThreshold port _ threshold =>
    exact ⟨_, rfl, .of_course (serve_course (setThresholdBody_course port threshold))⟩
  | run => exact ⟨_, rfl, .of_site (serve_site runBody_site) fun _ => trivial⟩
  | hold => exact ⟨_, rfl, .of_site (serve_site holdBody_site) fun _ => trivial⟩
  | stop => exact ⟨_, rfl, .of_site (serve_site stopBody_site) fun _ => trivial⟩
  | restart => exact ⟨_, rfl, .of_site (serve_site restartBody_site) fun _ => trivial⟩
  | siteWords _ _ start words => exact ⟨_, rfl, .of_load (serve_loads _ start words) fun h => h⟩
  | ppsEdge =>
    obtain ⟨v, hv, hback⟩ := ppsEdge_course s
    refine ⟨_, rfl, ?_⟩
    split
    · exact .of_course hs
    · have himage : ImageStands s (s.setTime v) := fun _ h => ⟨h, fun _ => rfl⟩
      exact ⟨fun _ => himage.trans hv.image, fun hne => absurd hv.list hne,
        fun hlt => ⟨v.clock, hback (hv.clock ▸ hlt), hv.clock⟩⟩
  | ppsHoldEnd => exact ⟨_, rfl, .of_course (.iff ⟨⟨rfl, fun _ => rfl, rfl⟩, rfl⟩ hs)⟩
  | pulseWatchExpiry => exact ⟨_, rfl, .of_course (.iff ⟨⟨rfl, fun _ => rfl, rfl⟩, rfl⟩ hs)⟩
  | clockAtLargestValue => exact ⟨_, rfl, .of_course (.iff ⟨⟨rfl, fun _ => rfl, rfl⟩, rfl⟩ hs)⟩
  | demandInstant gust =>
    have hlined : SiteStands s (s.setLines { s.lines with gust := gust }) := (hlevel _).toSiteStands
    have hcuts : CutMoves s (s.setLines { s.lines with gust := gust }) := (CutMoves.refl s).keeps (fun _ h => h) rfl
    refine ⟨_, rfl, .of_cuts (.iff (.trans ?_ (.of_work (takeInstant_work _ gust _))) hlined)
      (.iff (fun _ => demandInstant_cuts gust hcuts) fun _ => hcuts) fun h => h⟩
    exact ⟨rfl, fun _ => rfl, rfl⟩
  | driveReply axis chars =>
    exact ⟨_, rfl, .of_cuts
      (.iff (.refl s) (.of_work (DriveWork.fold (fun t b => takeDriveCharacter_work axis b t) chars s)))
      (.iff (fun _ => .refl s) fun _ => .fold chars (fun _ b _ h => takeDriveCharacter_cuts axis b h) (.refl s))
      fun h => h⟩
  | graceTimerExpiry axis =>
    exact ⟨_, rfl, .of_cuts (.iff (.of_work (followingRise_work axis s)) (.refl s))
      (.iff (fun _ => followingRise_cuts axis (.refl s)) fun _ => .refl s) fun h => h⟩
  | cutSourceRise line level =>
    have hlined : SiteStands s (s.setLines (s.lines.setLevel line level)) := (hlevel _).toSiteStands
    have hcuts : CutMoves s (s.setLines (s.lines.setLevel line level)) := (CutMoves.refl s).keeps (fun _ h => h) rfl
    exact ⟨_, rfl, .of_cuts (.iff (hlined.trans (.of_work (cutByLine_work ..))) hlined)
      (.iff (fun _ => cutByLine_cuts _ hcuts) fun _ => hcuts) fun h => h⟩
  | brakeTimerExpiryReleasing axis =>
    exact ⟨_, rfl, .of_course (.iff (.of_drive (enterOn_work axis s) (enterOn_listState axis s)) hs)⟩
  | brakeTimerExpirySetting axis => exact ⟨_, rfl, .of_course (.iff (.of_drive (enterOff_work axis s) rfl) hs)⟩
  | startWatchExpiry id =>
    have hexpired : CourseStands s (expireWatch id.toNat s) := ⟨⟨rfl, fun _ => rfl, rfl⟩, rfl⟩
    exact ⟨_, rfl, .of_course (.iff (hexpired.trans (startCheck_course _)) hs)⟩
  | recordExpiry id =>
    exact ⟨_, rfl, .of_course (.iff hs (.of_target (expireIfDue_work ..) (expireIfDue_listState ..)))⟩
  | settleHoldExpiry => exact ⟨_, rfl, .of_course (.iff (.of_target (enterTrack_work s) (enterTrack_listState s)) hs)⟩
  | settleTimeoutExpiry => exact ⟨_, rfl, .of_course (.iff (endTarget_course ..) hs)⟩
  | dwellExpiry => exact ⟨_, rfl, .of_course (.iff (endTarget_course ..) hs)⟩
  | stowRise =>
    exact ⟨_, rfl, .of_site (.iff ((hlevel _).toSiteStands.trans (.of_work (stowRise_work _).toDrive))
      (hlevel _).toSiteStands) fun _ => trivial⟩
  | stowFall =>
    exact ⟨_, rfl, .of_site (.iff ((hlevel _).toSiteStands.trans (.of_work (stowFall_work _).toDrive))
      (hlevel _).toSiteStands) fun _ => trivial⟩
  | domeReadyChange level =>
    have hjudged : ∀ u, CourseStands u (domeChanged u) := fun u =>
      .iff (.of_target (judgeSettle_work u) (judgeSettle_listState u)) (.refl u)
    exact ⟨_, rfl, .of_course (.iff ((hlevel _).trans (hjudged _)) (hlevel _))⟩
  | shutterChange level =>
    exact ⟨_, rfl, .of_course (.iff (hlevel _)
      ((hlevel _).trans (.of_target (changeShutter_work ..) (changeShutter_listState ..))))⟩
  | shutterCandidateAccepted =>
    exact ⟨_, rfl, .of_course (.iff hs
      (.of_target (acceptReady_work s) (congrArg Controller.listState (acceptReady_stands s).2)))⟩

/-- What a command moves is what `exec_moves` says of it. -/
theorem moves_of_exec {c : Instr} {t : State} (h : exec c s = .next t) : Moves c s t := by
  obtain ⟨u, hu, hmoves⟩ := exec_moves c s
  obtain rfl : u = t := by rw [hu] at h; exact Host.Outcome.next.inj h
  exact hmoves

end Commands

end Sys2Proof.Machine

namespace Sys2Proof.Proofs
open Sys2Proof.Machine

/-- Settles O32: `Moves` of every command, and on an empty queue `idle_clock`. -/
theorem imageListStateAndClockMoveOnlyAtTheirEvents : Obligations.ImageListStateAndClockMoveOnlyAtTheirEvents := by
  refine ⟨fun c s t image hv ha hl hexec => (moves_of_exec hexec).image ?_ image hv,
    fun c s t hexec hne => (moves_of_exec hexec).list hne, fun s t hstep hlt => ?_⟩
  · rintro (rfl | ⟨l, rfl | rfl⟩)
    · exact ha rfl
    · exact (hl l).1 rfl
    · exact (hl l).2 rfl
  · unfold step at hstep
    split at hstep
    next =>
      obtain rfl := Host.Outcome.next.inj hstep
      exact absurd (idle_clock s) (Nat.not_le.mpr hlt)
    next c rest hpending => exact ⟨c, rest, hpending, (moves_of_exec hstep).clock hlt⟩

end Sys2Proof.Proofs
end
